-- ==== Sys2Proof/Word.lean ====
section
/-! DEFINITION. The plain words of the block (00_scope R14: all values are unsigned bits). What is computed with them
stands in Machine/. -/

namespace Sys2Proof

/-- A command word, a digit character or one byte of a response (R14, R17, R110). -/
abbrev Byte := BitVec 8

/-- The value of a 16-bit response, DGFLT or DGCNT (R114). -/
abbrev Half := BitVec 16

end Sys2Proof
end

