-- ==== Sys2Proof/Machine/Record.lean ====
section
/-! DEFINITION. The time record (10_state R46), a type of its own file because both Config (its contents after RESET are a
free value) and State hold it. -/

namespace Sys2Proof.Machine

/-- One "TimeRecord": eleven digit characters and four flags, 92 bits (R46). A digit character may hold a value outside
'0'..'9' (R17, R210). -/
structure TimeRecord where
  /-- `min_t`, the minute's tens digit character -/
  minT : Byte
  /-- `min_o` -/
  minO : Byte
  /-- `hour_t` -/
  hourT : Byte
  /-- `hour_o` -/
  hourO : Byte
  /-- `day_t` -/
  dayT : Byte
  /-- `day_o` -/
  dayO : Byte
  /-- `month_t` -/
  monthT : Byte
  /-- `month_o` -/
  monthO : Byte
  /-- `year_t` -/
  yearT : Byte
  /-- `year_o` -/
  yearO : Byte
  /-- `weekday`, a single digit character -/
  weekday : Byte
  /-- `tz_change` (timezone_change_pending) -/
  tzChange : Bool
  /-- `is_cest` -/
  isCest : Bool
  /-- `is_cet` -/
  isCet : Bool
  /-- `leap_pending` (leap_second_pending) -/
  leapPending : Bool
  deriving DecidableEq, Repr, Inhabited

end Sys2Proof.Machine
end

