-- ==== Sys2Proof/Config.lean ====
section
/-! DEFINITION. What an implementation fixes (00_scope R6-R12) and the free value of the model (RESET_SLOT_CONTENTS, U4). -/

namespace Sys2Proof.Config

/-- `EDGE_CNT_OVF`: what CNT does at `EDGE_CNT_MAX` (R9). -/
inductive Overflow where
  | saturate
  | wrap
  deriving DecidableEq, Repr

/-- The implementation parameters of 00_scope R6-R12. The spec leaves them OPEN and says that a model takes each as an
argument: they are a field of State that no step writes, so every statement about all states is one about all parameters
(log entry 1). Their constraints are `Params.wf` in WellFormed.lean. -/
structure Params where
  /-- `TICKS_PER_SEC`, written N (R6) -/
  ticksPerSec : Nat
  /-- `EDGE_CNT_HZ`, written F (R7) -/
  edgeCntHz : Nat
  /-- `EDGE_CNT_W`, the width of the edge counter (R8) -/
  edgeCntW : Nat
  /-- `EDGE_CNT_OVF` (R9) -/
  edgeCntOvf : Overflow
  /-- `ANCHOR_OFFSET` (R10) -/
  anchorOffset : Nat
  /-- `ERR_CNT_MAX`; its type is R11's bound 65535 -/
  errCntMax : BitVec 16
  /-- `LEAP_REQUIRES_ANNOUNCE` (R12) -/
  leapRequiresAnnounce : Bool
  deriving DecidableEq, Repr

/-- `EDGE_CNT_MAX = 2^EDGE_CNT_W - 1` (R8). -/
def Params.edgeCntMax (c : Params) : Nat := 2 ^ c.edgeCntW - 1

/-- The values "the test vectors use" (R6-R12; not normative). DESIGN CHOICE: State.reset holds them (log entry 1). -/
def vectors : Params :=
  { ticksPerSec := 16
    edgeCntHz := 1024
    edgeCntW := 16
    edgeCntOvf := .saturate
    anchorOffset := 0
    errCntMax := 255
    leapRequiresAnnounce := true }

/-- `RESET_SLOT_CONTENTS` (R46, R330, U4): what a slot holds after the `n`-th reset, for slot number `i`. A free value: no
body, so nothing can be proved of it (log entry 2). -/
opaque resetSlot (n : Nat) (i : BitVec 1) : Sys2Proof.Machine.TimeRecord

end Sys2Proof.Config
end

