-- ==== Sys2Proof/Syntax.lean ====
section
/-! DEFINITION. The commands of the block, one constructor per row of spec/opcode_table.json (30_encoding R112), with the
operand of each at its exact width (R111). -/

namespace Sys2Proof

/-- The ten commands (R112). -/
inductive Instr where
  /-- TICK p: one tick of the sampling clock, with the pin level `p` (R172). -/
  | tick (p : BitVec 1)
  /-- EDGE: one signal transition (R155). -/
  | edge
  /-- CNT: one tick of the edge counter (R152). -/
  | cnt
  /-- RDREC: read the published record (R271). -/
  | rdrec
  /-- RDSTAT: read the consumer flags (R273). -/
  | rdstat
  /-- RDSEC: read the second within the minute (R275). -/
  | rdsec
  /-- ACK m: clear consumer flags, with the clear mask `m` (R277). -/
  | ack (m : BitVec 2)
  /-- DGFLT: read and clear the fault latch (R279). -/
  | dgflt
  /-- DGCNT: read and clear the fault counter (R281). -/
  | dgcnt
  /-- RESET: put the block in its initial state (R330). -/
  | reset
  deriving DecidableEq, Repr

/-- Why a command word is reserved (R113). -/
inductive Reserved where
  /-- `cmd[7:4]` is the operation code of no command. -/
  | noOperation
  /-- `cmd[7:4]` is a command's operation code, and the operand field holds a bit that command does not name. -/
  | badOperand
  deriving DecidableEq, Repr

/-- The contexts that issue commands (60_exceptions R312, the "context" column of R112). -/
inductive Context where
  | tickSource
  | edgeSource
  | counterClock
  | consumer
  | diagnostics
  | platform
  deriving DecidableEq, Repr

end Sys2Proof
end

