-- ==== Sys2Proof/WellFormed.lean ====
section
/-! DEFINITION. What is well formed: a command (30_encoding R111) and a set of parameters (00_scope R6-R11). -/

namespace Sys2Proof

/-- A command is well formed when its operand fits the bits R111 names. The constructors of `Instr` hold operands of
exactly those widths, so the types leave nothing to refuse: one line per constructor says so. -/
def Instr.wf : Instr → Bool
  | .tick _ => true   -- `p` is the one bit cmd[0]
  | .edge => true
  | .cnt => true
  | .rdrec => true
  | .rdstat => true
  | .rdsec => true
  | .ack _ => true    -- `m` is the two bits cmd[1:0]
  | .dgflt => true
  | .dgcnt => true
  | .reset => true

namespace Config

/-- The constraints of R6 (`N >= 11`), R7 (`F >= 1`), R8 (`16 * EDGE_CNT_MAX > 34 * F`), R10 (`ANCHOR_OFFSET <= N - 1`)
and R11 (`1 <= ERR_CNT_MAX`; the upper bound is its type's). -/
abbrev Params.wf (c : Params) : Prop :=
  11 ≤ c.ticksPerSec ∧ 1 ≤ c.edgeCntHz ∧ 34 * c.edgeCntHz < 16 * c.edgeCntMax ∧
    c.anchorOffset ≤ c.ticksPerSec - 1 ∧ 1 ≤ c.errCntMax.toNat

end Config

end Sys2Proof
end

