-- ==== Sys2Proof/Decode.lean ====
section
/-! DEFINITION. The command map (30_encoding R110-R114): decoding, total on every 8-bit word and refusing the reserved ones
by name, then the encoder, and the map's other columns. -/

namespace Sys2Proof

/-- What a command word decodes to. -/
inductive Decoded where
  | command (i : Instr)
  | reserved (why : Reserved)
  deriving DecidableEq, Repr

/-- `cmd[7:4]`, the operation code (R110). -/
def commandOp (w : Byte) : BitVec 4 := w.extractLsb' 4 4

/-- `cmd[0]`, the pin level `p` of TICK (R111). -/
def pinField (w : Byte) : BitVec 1 := w.extractLsb' 0 1

/-- `cmd[1:0]`, the clear mask `m` of ACK (R111). -/
def maskField (w : Byte) : BitVec 2 := w.extractLsb' 0 2

/-- One row of R112: the word `w` matches when its bits under `mask` are `pat`; a word with the row's operation code that
does not match has a nonzero bit its command does not name (R113). -/
def decodeRow (w mask pat : Byte) (i : Instr) : Decoded :=
  if w &&& mask = pat then .command i else .reserved .badOperand

/-- The command a word stands for (R112), or why it is reserved (R113). -/
def decode (w : Byte) : Decoded :=
  match commandOp w with
  | 0x1 => decodeRow w 0xFE 0x10 (.tick (pinField w))
  | 0x2 => decodeRow w 0xFF 0x20 .edge
  | 0x3 => decodeRow w 0xFF 0x30 .cnt
  | 0x4 => decodeRow w 0xFF 0x40 .rdrec
  | 0x5 => decodeRow w 0xFF 0x50 .rdstat
  | 0x6 => decodeRow w 0xFF 0x60 .rdsec
  | 0x7 => decodeRow w 0xFC 0x70 (.ack (maskField w))
  | 0x8 => decodeRow w 0xFF 0x80 .dgflt
  | 0x9 => decodeRow w 0xFF 0x90 .dgcnt
  | 0xF => decodeRow w 0xFF 0xFF .reset
  | _ => .reserved .noOperation

/-- The command of a decoded word, where it is one. -/
def decodedCommand : Decoded → Option Instr
  | .command i => some i
  | .reserved _ => none

/-- The host's reading of a table row: a command is one byte, so the instruction is the low byte of the row's bits. -/
def decodeTableWord (nbits w : Nat) : Option Instr :=
  decodedCommand (decode (BitVec.ofNat 8 (w % 2 ^ nbits)))

/-- The word of a command (R112): operation code, then operand, the unnamed operand bits 0 (R111). -/
def encode : Instr → Byte
  | .tick p => (0b0001000#7 ++ p : BitVec 8)
  | .edge => 0b00100000
  | .cnt => 0b00110000
  | .rdrec => 0b01000000
  | .rdstat => 0b01010000
  | .rdsec => 0b01100000
  | .ack m => (0b011100#6 ++ m : BitVec 8)
  | .dgflt => 0b10000000
  | .dgcnt => 0b10010000
  | .reset => 0b11111111

/-- The "match" column of R112 and of spec/opcode_table.json. -/
def commandMatch : Instr → Byte
  | .tick _ => 0x10
  | .edge => 0x20
  | .cnt => 0x30
  | .rdrec => 0x40
  | .rdstat => 0x50
  | .rdsec => 0x60
  | .ack _ => 0x70
  | .dgflt => 0x80
  | .dgcnt => 0x90
  | .reset => 0xFF

/-- The "mask" column of R112 and of spec/opcode_table.json. -/
def commandMask : Instr → Byte
  | .tick _ => 0xFE
  | .edge => 0xFF
  | .cnt => 0xFF
  | .rdrec => 0xFF
  | .rdstat => 0xFF
  | .rdsec => 0xFF
  | .ack _ => 0xFC
  | .dgflt => 0xFF
  | .dgcnt => 0xFF
  | .reset => 0xFF

/-- The "context" column of R112: who issues the command (60_exceptions R312). The block does not check it. -/
def commandContext : Instr → Context
  | .tick _ => .tickSource
  | .edge => .edgeSource
  | .cnt => .counterClock
  | .rdrec => .consumer
  | .rdstat => .consumer
  | .rdsec => .consumer
  | .ack _ => .consumer
  | .dgflt => .diagnostics
  | .dgcnt => .diagnostics
  | .reset => .platform

/-- The "response" column of R112 (R114): how many bits the command delivers, or none. -/
def responseBits : Instr → Option Nat
  | .tick _ => none
  | .edge => none
  | .cnt => none
  | .rdrec => some 96
  | .rdstat => some 8
  | .rdsec => some 8
  | .ack _ => none
  | .dgflt => some 16
  | .dgcnt => some 16
  | .reset => none

end Sys2Proof
end

