-- ==== Sys2Proof/Machine/State.lean ====
section
/-! DEFINITION. The state of the block (10_state R59), with the model's own fields for the stream of command words and of
responses, the parameters and the count of free draws; the reasons a step can stop; the state after reset (70_reset R330,
R331). -/

namespace Sys2Proof.Machine

/-- The ten kinds of decode fault (60_exceptions R300); code 0, NONE, is no kind. A decode fault is data in the error
state, never a model fault (R303). -/
inductive ErrorKind where
  | undefinedState
  | startOfMinute
  | endOfMinute
  | notEndOfMinute
  | cetCest
  | startTime
  | parityMinute
  | parityHour
  | parityDate
  | bitState
  deriving DecidableEq, Repr

/-- What the response port delivers in one event (30_encoding R114). -/
inductive Response where
  /-- RDREC: the 12-byte image of a record (20_memory R81). -/
  | record (image : Vector Byte 12)
  /-- RDSTAT and RDSEC: one byte. -/
  | byte (v : Byte)
  /-- DGFLT and DGCNT: one 16-bit value. -/
  | half (v : Half)
  deriving DecidableEq, Repr

/-- The faults that stop the machine: there are none. "No fault is ever fatal to the process" (60_exceptions R303): every
decode fault ends in a state from which the block runs on, so this type has no constructor. -/
inductive Fault where
  deriving DecidableEq, Repr

/-- The reasons a step is refused. -/
inductive Refusal where
  /-- Raised by `exec` for a command with no meaning yet. No arm does. Safe: the machine stops. -/
  | notModelled (mnemonic : String)
  /-- Raised by `step` on a command word that matches no row of R112: "A model refuses a reserved word: it gives it no
  meaning and takes no step" (30_encoding R113, U1). Safe: the machine stops where the block's behaviour is unspecified. -/
  | reservedWord (w : Byte) (why : Reserved)
  deriving DecidableEq, Repr

/-- The state: the registers of 10_state R59 under their own names, then the model's own fields. -/
structure State where
  /-- `edge_cnt`, EDGE_CNT_W bits (R33); kept at most EDGE_CNT_MAX -/
  edgeCnt : Nat
  /-- `sync_run`, the run length of accepted intervals; 3 is LOCKED (R34) -/
  syncRun : BitVec 2
  /-- `tick_pos`, the position of the tick within the second (R36); kept below N -/
  tickPos : Nat
  /-- `vote_a` (R37) -/
  voteA : BitVec 2
  /-- `vote_b` (R38) -/
  voteB : BitVec 2
  /-- `dstate`, the decoder position; 63 is NOT_SYNCED (R40) -/
  dstate : BitVec 6
  /-- `parity`, the running parity accumulator (R41) -/
  parity : Bool
  /-- `minute_fault` (R42) -/
  minuteFault : Bool
  /-- `valid_time_info` (R43) -/
  validTimeInfo : Bool
  /-- `leap_ext` (R44) -/
  leapExt : Bool
  /-- `sec_count`, the second within the minute (R45) -/
  secCount : BitVec 6
  /-- `slot[0]` (R46) -/
  slot0 : TimeRecord
  /-- `slot[1]` (R46) -/
  slot1 : TimeRecord
  /-- `write_index`, the slot the decoder writes (R48) -/
  writeIndex : BitVec 1
  /-- `read_index`, the slot the consumer reads (R48) -/
  readIndex : BitVec 1
  /-- `fresh` (R52) -/
  fresh : Bool
  /-- `needs_fallback` (R53) -/
  needsFallback : Bool
  /-- `ever_published` (R54) -/
  everPublished : Bool
  /-- `last_error`, the code of the latched fault; 0 is NONE (R55) -/
  lastError : BitVec 4
  /-- `error_decoder_state` (R56) -/
  errorDecoderState : BitVec 6
  /-- `error_position` (R57) -/
  errorPosition : BitVec 6
  /-- `err_count`, up to 16 bits (R58) -/
  errCount : BitVec 16
  /-- The model's own: the parameters of R6-R12, fixed for the life of an instance (R59; log entry 1). -/
  cfg : Config.Params
  /-- The model's own: the command words presented and not yet taken, oldest first (R89, R110; log entry 3). -/
  commands : List Byte
  /-- The model's own: what the response port has delivered, oldest first (R114, R349; log entry 4). -/
  responses : List Response
  /-- The model's own: how many draws of RESET_SLOT_CONTENTS have been made (U4; log entry 2). -/
  resetDraws : Nat
  deriving DecidableEq, Repr

/-- The machine right after reset: power-on is RESET (R331), with the values of R330. The slots are the free draw 0 (R46,
U4; log entry 2); the parameters are the test vectors' (log entry 1); nothing is presented or delivered. -/
def State.reset : State :=
  { edgeCnt := 0
    syncRun := 0
    tickPos := 0
    voteA := 0
    voteB := 0
    dstate := 63
    parity := false
    minuteFault := false
    validTimeInfo := false
    leapExt := false
    secCount := 0
    slot0 := Config.resetSlot 0 0
    slot1 := Config.resetSlot 0 1
    writeIndex := 0
    readIndex := 1
    fresh := false
    needsFallback := false
    everPublished := false
    lastError := 0
    errorDecoderState := 0
    errorPosition := 0
    errCount := 0
    cfg := Config.vectors
    commands := []
    responses := []
    resetDraws := 1 }

end Sys2Proof.Machine
end

