-- ==== Sys2Proof/Machine/Ops.lean ====
section
/-! DEFINITION. The named operations over the state: taking a command word and delivering a response, the two slots and
their roles, the decoder's advance, the lock procedure, taking a decode fault (60_exceptions R301) and what stands for the
return from one (R310), and the reset of the block (70_reset R330). -/

namespace Sys2Proof.Machine

/-! ## Command words and responses -/

/-- The next command word and the state without it, or none when nothing is presented (20_memory R89: events in one total
order). -/
def fetchCommand (s : State) : Option (Byte × State) :=
  match s.commands with
  | [] => none
  | w :: rest => some (w, { s with commands := rest })

/-- `s` with `w` as the next command word. -/
def presentCommand (w : Byte) (s : State) : State :=
  { s with commands := w :: s.commands }

/-- The response port delivers `r` in this event (30_encoding R114). -/
def respond (r : Response) (s : State) : State :=
  { s with responses := s.responses ++ [r] }

/-! ## Slots -/

/-- `slot[i]` (10_state R46). -/
def slot (i : BitVec 1) (s : State) : TimeRecord :=
  if i = 0 then s.slot0 else s.slot1

/-- `slot[i] <- r`. -/
def setSlot (i : BitVec 1) (r : TimeRecord) (s : State) : State :=
  if i = 0 then { s with slot0 := r } else { s with slot1 := r }

/-- `W`, the write slot `slot[write_index]` (R15). -/
def writeSlot (s : State) : TimeRecord := slot s.writeIndex s

/-- `Rd`, the read slot `slot[read_index]` (R15). -/
def readSlot (s : State) : TimeRecord := slot s.readIndex s

/-- Rewrites the write slot; the decoder's one way to a record (R49). -/
def updateWrite (f : TimeRecord → TimeRecord) (s : State) : State :=
  setSlot s.writeIndex (f (writeSlot s)) s

/-- Rewrites the read slot; the fallback's one way to a record (R49). -/
def updateRead (f : TimeRecord → TimeRecord) (s : State) : State :=
  setSlot s.readIndex (f (readSlot s)) s

/-! ## Synchronizer and decoder sequencing -/

/-- `locked` is defined as `sync_run = 3` (10_state R35). -/
def locked (s : State) : Bool := s.syncRun == 3

/-- `dstate` of NOT_SYNCED (30_encoding R125). -/
def notSynced : BitVec 6 := 63

/-- `dstate` of START_OF_MINUTE (R125). -/
def startOfMinute : BitVec 6 := 0

/-- `Lock()` (40_edge_sync R157). -/
def lock (s : State) : State :=
  { s with
    tickPos := s.cfg.anchorOffset
    voteA := 0
    voteB := 0
    dstate := startOfMinute
    secCount := 0
    minuteFault := false
    validTimeInfo := false
    leapExt := false }

/-- `Advance()` (42_decoder R229): the position the rule ran for is `dstate`. -/
def advance (s : State) : State :=
  { s with dstate := s.dstate + 1, secCount := s.secCount + 1 }

/-- The new minute's working state, the last five lines of `MinuteBoundary()` (43_publish R241). -/
def startMinute (s : State) : State :=
  { s with
    dstate := startOfMinute
    secCount := 0
    minuteFault := false
    validTimeInfo := false
    leapExt := false }

/-! ## Taking a decode fault -/

/-- The 4-bit code of a fault kind (60_exceptions R300). -/
def errorCode : ErrorKind → BitVec 4
  | .undefinedState => 1
  | .startOfMinute => 2
  | .endOfMinute => 3
  | .notEndOfMinute => 4
  | .cetCest => 5
  | .startTime => 6
  | .parityMinute => 7
  | .parityHour => 8
  | .parityDate => 9
  | .bitState => 10

/-- Whether a kind forces NOT_SYNCED (R300, R301 (d)). -/
def forcesNotSynced : ErrorKind → Bool
  | .undefinedState => true
  | .startOfMinute => false
  | .endOfMinute => true
  | .notEndOfMinute => false
  | .cetCest => false
  | .startTime => false
  | .parityMinute => false
  | .parityHour => false
  | .parityDate => false
  | .bitState => true

/-- R301 (a): this minute is invalid. -/
def invalidateMinute (s : State) : State :=
  { s with minuteFault := true, validTimeInfo := false }

/-- R301 (b): the fault counter, saturating at ERR_CNT_MAX. -/
def countFault (s : State) : State :=
  { s with errCount := if s.errCount < s.cfg.errCntMax then s.errCount + 1 else s.errCount }

/-- R301 (c): the first fault is latched with the state and the position it came in. -/
def latchFault (k : ErrorKind) (s : State) : State :=
  { s with
    lastError := if s.lastError = 0 then errorCode k else s.lastError
    errorDecoderState := if s.lastError = 0 then s.dstate else s.errorDecoderState
    errorPosition := if s.lastError = 0 then s.secCount else s.errorPosition }

/-- R301 (d): the decoder drops to NOT_SYNCED and the synchronizer unlocks. -/
def forceNotSynced (s : State) : State :=
  { s with dstate := notSynced, syncRun := 0 }

/-- `Fault(k)` (R301), the one shared operation every decode fault takes. The step ends after a forcing kind; its callers
do nothing after those. -/
def raiseFault (k : ErrorKind) (s : State) : State :=
  let t := latchFault k (countFault (invalidateMinute s))
  if forcesNotSynced k then forceNotSynced t else t

/-- Empties the fault latch and so re-arms it: what stands in the block for the return from a fault (R310, R279). -/
def clearLatch (s : State) : State :=
  { s with lastError := 0, errorDecoderState := 0, errorPosition := 0 }

/-! ## Reset -/

/-- The pseudocode of RESET (70_reset R330). RESET_SLOT_CONTENTS is a fresh free draw (U4, log entry 2). -/
def resetBlock (s : State) : State :=
  { s with
    edgeCnt := 0
    syncRun := 0
    tickPos := 0
    voteA := 0
    voteB := 0
    dstate := notSynced
    parity := false
    minuteFault := false
    validTimeInfo := false
    leapExt := false
    secCount := 0
    slot0 := Config.resetSlot s.resetDraws 0
    slot1 := Config.resetSlot s.resetDraws 1
    writeIndex := 0
    readIndex := 1
    fresh := false
    needsFallback := false
    everPublished := false
    lastError := 0
    errorDecoderState := 0
    errorPosition := 0
    errCount := 0
    resetDraws := s.resetDraws + 1 }

end Sys2Proof.Machine
end

