-- ==== Sys2Proof/Machine/Operands.lean ====
section
/-! DEFINITION. The operand forms (30_encoding R111): the pin level of TICK and the clear mask of ACK. Each is taken as an
unsigned value, zero-extended. -/

namespace Sys2Proof.Machine

/-- What a sample adds to a vote counter: `p`, zero-extended to the counter's 2 bits (R111, R172). -/
def pinVote (p : BitVec 1) : BitVec 2 := p.setWidth 2

/-- `m[0]`: ACK clears `fresh` (R111, R277). -/
def maskClearsFresh (m : BitVec 2) : Bool := m.getLsbD 0

/-- `m[1]`: ACK clears `needs_fallback` (R111, R277). -/
def maskClearsFallback (m : BitVec 2) : Bool := m.getLsbD 1

end Sys2Proof.Machine
end

