-- ==== Sys2Proof/Machine/Flags.lean ====
section
/-! DEFINITION. What is computed from bits: the acceptance test, the majorities and the classification, the parity
accumulator and its check, the digit characters, the carries, and the layouts of the responses. -/

namespace Sys2Proof.Machine

/-! ## Acceptance (40_edge_sync R154) -/

/-- `Accept(d)` for `F = f`, computed on unbounded integers (R154). -/
def accept (f d : Nat) : Bool :=
  decide (16 * ((d : Int) - (f : Int)).natAbs ≤ f) || decide (16 * ((d : Int) - 2 * (f : Int)).natAbs ≤ 2 * f)

/-! ## Windows, majority, classification (41_bit_sampler R171-R174) -/

/-- Window A is the tick positions 1, 2, 3 (R171). -/
def inWindowA (t : Nat) : Bool := decide (t = 1 ∨ t = 2 ∨ t = 3)

/-- Window B is the tick positions 8, 9, 10 (R171). -/
def inWindowB (t : Nat) : Bool := decide (t = 8 ∨ t = 9 ∨ t = 10)

/-- At least 2 of the 3 samples were high (R173). -/
def majority (votes : BitVec 2) : Bool := decide (2 ≤ votes)

/-- A classification (00_scope R18, 30_encoding R120). -/
inductive Cls where
  | one
  | zero
  | invalid
  | marker
  deriving DecidableEq, Repr

/-- `cls = {a, b}` by name (R120, R174). -/
def classOfMajorities (a b : Bool) : Cls :=
  match a, b with
  | false, false => .one
  | false, true => .zero
  | true, false => .invalid
  | true, true => .marker

/-- The 2-bit code `{A, B}` of a classification, A in bit 1 (R18, R120). -/
def classCode : Cls → BitVec 2
  | .one => 0b00
  | .zero => 0b01
  | .invalid => 0b10
  | .marker => 0b11

/-- The classification of a second from its two vote counters (R173, R174). -/
def classify (voteA voteB : BitVec 2) : Cls := classOfMajorities (majority voteA) (majority voteB)

/-! ## Parity (42_decoder R216) -/

/-- `parity XOR v`. -/
def parityNext (parity v : Bool) : Bool := parity.xor v

/-- A parity position fails when the received bit differs from the accumulator (R208, R211, R219). -/
def parityFails (parity v : Bool) : Bool := parity != v

/-! ## Digit characters (00_scope R17, 42_decoder R206-R210) -/

/-- `'d'` for a decimal digit `d` (R17). -/
def digitChar (d : Nat) : Byte := 0x30 + BitVec.ofNat 8 d

/-- ORs bit `j` into a digit character when the received bit is 1 (R206); no range check (R210). -/
def orBit (c : Byte) (j : Nat) (v : Bool) : Byte := if v then c ||| (1#8 <<< j) else c

/-- `inc(c) = (c + 1) mod 256` (43_publish R246, R247). -/
def incChar (c : Byte) : Byte := c + 1

/-! ## Response layouts (44_consumer, 20_memory R81) -/

/-- Byte 11 of the record image (R81). -/
def recordFlags (r : TimeRecord) : Byte :=
  (0#4 ++ BitVec.ofBool r.leapPending ++ BitVec.ofBool r.isCet ++ BitVec.ofBool r.isCest ++ BitVec.ofBool r.tzChange : BitVec 8)

/-- The 12-byte image of a record (R81). -/
def recordImage (r : TimeRecord) : Vector Byte 12 :=
  #v[r.minT, r.minO, r.hourT, r.hourO, r.dayT, r.dayO, r.monthT, r.monthO, r.yearT, r.yearO, r.weekday, recordFlags r]

/-- The byte of RDSTAT: `zext_8({ever_published, needs_fallback, fresh})` (R273). -/
def statusByte (everPublished needsFallback fresh : Bool) : Byte :=
  (BitVec.ofBool everPublished ++ BitVec.ofBool needsFallback ++ BitVec.ofBool fresh : BitVec 3).setWidth 8

/-- The byte of RDSEC: `zext_8(sec_count)` (R275). -/
def secondByte (secCount : BitVec 6) : Byte := secCount.setWidth 8

/-- The value of DGFLT: `{last_error[3:0], error_decoder_state[5:0], error_position[5:0]}` (R279). -/
def latchWord (lastError : BitVec 4) (decoderState position : BitVec 6) : Half :=
  (lastError ++ decoderState ++ position : BitVec 16)

/-- The value of DGCNT: `zext_16(err_count)` (R281). -/
def counterWord (errCount : BitVec 16) : Half := errCount.setWidth 16

end Sys2Proof.Machine
end

