-- ==== Sys2Proof/Machine/Consumer.lean ====
section
/-! DEFINITION. The consumer ports (44_consumer_diag): RDREC, RDSTAT, RDSEC and ACK. -/

namespace Sys2Proof.Machine

/-- RDREC: the image of the read slot, whole in one event (R271, 20_memory R93). -/
def execRdrec (s : State) : Host.Outcome State Fault Refusal :=
  .next (respond (.record (recordImage (readSlot s))) s)

/-- RDSTAT: the consumer flags (R273). -/
def execRdstat (s : State) : Host.Outcome State Fault Refusal :=
  .next (respond (.byte (statusByte s.everPublished s.needsFallback s.fresh)) s)

/-- RDSEC: the second within the minute (R275). -/
def execRdsec (s : State) : Host.Outcome State Fault Refusal :=
  .next (respond (.byte (secondByte s.secCount)) s)

/-- ACK m: clears the flags the mask names, and can set none (R277). -/
def execAck (m : BitVec 2) (s : State) : Host.Outcome State Fault Refusal :=
  .next { s with
    fresh := if maskClearsFresh m then false else s.fresh
    needsFallback := if maskClearsFallback m then false else s.needsFallback }

end Sys2Proof.Machine
end

