-- ==== Sys2Proof/Machine/Diag.lean ====
section
/-! DEFINITION. The diagnostics ports (44_consumer_diag): DGFLT and DGCNT, each read-and-clear. -/

namespace Sys2Proof.Machine

/-- DGFLT: the latch triple, then the latch is empty (R279). -/
def execDgflt (s : State) : Host.Outcome State Fault Refusal :=
  .next (respond (.half (latchWord s.lastError s.errorDecoderState s.errorPosition)) (clearLatch s))

/-- DGCNT: the fault counter, then it is 0 (R281). -/
def execDgcnt (s : State) : Host.Outcome State Fault Refusal :=
  .next (respond (.half (counterWord s.errCount)) { s with errCount := 0 })

end Sys2Proof.Machine
end

