-- ==== Sys2Proof/Machine/EdgeSync.lean ====
section
/-! DEFINITION. The edge synchronizer (40_edge_sync): CNT and EDGE. -/

namespace Sys2Proof.Machine

/-- The counter after one CNT (R152, R9). -/
def countEdgeTick (c : Config.Params) (n : Nat) : Nat :=
  if n = c.edgeCntMax then
    match c.edgeCntOvf with
    | .saturate => c.edgeCntMax
    | .wrap => 0
  else n + 1

/-- CNT (R152). -/
def execCnt (s : State) : Host.Outcome State Fault Refusal :=
  .next { s with edgeCnt := countEdgeTick s.cfg s.edgeCnt }

/-- What an unlocked synchronizer does with a measured interval `d` (R155). -/
def measureInterval (d : Nat) (s : State) : State :=
  if accept s.cfg.edgeCntHz d then
    let t := { s with syncRun := s.syncRun + 1 }
    if locked t then lock t else t
  else { s with syncRun := 0 }

/-- EDGE (R155, R156). -/
def execEdge (s : State) : Host.Outcome State Fault Refusal :=
  .next (
    let d := s.edgeCnt
    let t := { s with edgeCnt := 0 }
    if locked t then t else measureInterval d t)

end Sys2Proof.Machine
end

