-- ==== Sys2Proof/Machine/Platform.lean ====
section
/-! DEFINITION. The platform's command: RESET (70_reset). -/

namespace Sys2Proof.Machine

/-- RESET (R330): every element of the block's state. The stream of commands, what was delivered and the parameters are not
the block's state and stay. -/
def execReset (s : State) : Host.Outcome State Fault Refusal :=
  .next (resetBlock s)

end Sys2Proof.Machine
end

