-- ==== Sys2Proof/Machine/Publish.lean ====
section
/-! DEFINITION. The double-buffer swap and the minute-advance fallback (43_publish_fallback). -/

namespace Sys2Proof.Machine

/-- The hour part of `AdvanceMinute`, after the minute carried (R246). -/
def advanceHour (r : TimeRecord) : TimeRecord :=
  if r.hourT = digitChar 2 ∧ r.hourO = digitChar 3 then { r with hourT := digitChar 0, hourO := digitChar 0 }
  else if r.hourO ≠ digitChar 9 then { r with hourO := incChar r.hourO }
  else { r with hourO := digitChar 0, hourT := incChar r.hourT }

/-- `AdvanceMinute(r)` on digit characters (R246, R247). -/
def advanceMinute (r : TimeRecord) : TimeRecord :=
  if r.minO ≠ digitChar 9 then { r with minO := incChar r.minO }
  else if r.minT ≠ digitChar 5 then { r with minO := digitChar 0, minT := incChar r.minT }
  else advanceHour { r with minO := digitChar 0, minT := digitChar 0 }

/-- `Publish()` (R243): the roles swap in one step. -/
def publish (s : State) : State :=
  { s with
    writeIndex := s.readIndex
    readIndex := s.writeIndex
    fresh := true
    needsFallback := false
    everPublished := true }

/-- `Fallback()` (R245). -/
def fallback (s : State) : State :=
  let t := { s with needsFallback := true }
  if t.everPublished then updateRead advanceMinute t else t

/-- `MinuteBoundary()` (R241). -/
def minuteBoundary (s : State) : State :=
  startMinute (if s.validTimeInfo then publish s else fallback s)

end Sys2Proof.Machine
end

