-- ==== Sys2Proof/Machine/Decoder.lean ====
section
/-! DEFINITION. The protocol decoder (42_decoder): the position classes (30_encoding R125), one rule per class, and
`SecondStep` (R191). -/

namespace Sys2Proof.Machine

/-- The classes of decoder positions (R125). The argument of a data position is `k`, the index of its bit in the field. -/
inductive Position where
  | notSynced
  | undefined
  | startOfMinute
  | ignore
  | newTz
  | cest
  | cet
  | leap
  | startTime
  | minute (k : Nat)
  | parityMinute
  | hour (k : Nat)
  | parityHour
  | day (k : Nat)
  | weekday (k : Nat)
  | month (k : Nat)
  | year (k : Nat)
  | parityDate
  | endOfMinute
  deriving DecidableEq, Repr

/-- The position class a value of `dstate` names (R125). -/
def positionOfNat (n : Nat) : Position :=
  if n = 0 then .startOfMinute
  else if n ≤ 15 then .ignore
  else if n = 16 then .newTz
  else if n = 17 then .cest
  else if n = 18 then .cet
  else if n = 19 then .leap
  else if n = 20 then .startTime
  else if n ≤ 27 then .minute (n - 21)
  else if n = 28 then .parityMinute
  else if n ≤ 34 then .hour (n - 29)
  else if n = 35 then .parityHour
  else if n ≤ 41 then .day (n - 36)
  else if n ≤ 44 then .weekday (n - 42)
  else if n ≤ 49 then .month (n - 45)
  else if n ≤ 57 then .year (n - 50)
  else if n = 58 then .parityDate
  else if n = 59 then .endOfMinute
  else if n ≤ 62 then .undefined
  else .notSynced

/-- The position the decoder is at. -/
def position (s : State) : Position := positionOfNat s.dstate.toNat

/-- Raises `k` when `bad` holds; the step goes on (the kinds used here force nothing, R301). -/
def raiseWhen (bad : Bool) (k : ErrorKind) (s : State) : State := if bad then raiseFault k s else s

/-! ## Marker and ignored positions -/

/-- START_OF_MINUTE expects logical 0 (R196). -/
def ruleStartOfMinute (v : Bool) (s : State) : State := advance (raiseWhen v .startOfMinute s)

/-- IGNORE_1 to IGNORE_15: consumed, no field effect (R197). -/
def ruleIgnore (s : State) : State := advance s

/-! ## Flag positions -/

/-- NEW_TZ (R200). -/
def ruleNewTz (v : Bool) (s : State) : State :=
  advance (updateWrite (fun r => { r with tzChange := v }) s)

/-- CEST (R201). -/
def ruleCest (v : Bool) (s : State) : State :=
  advance (updateWrite (fun r => { r with isCest := v }) s)

/-- CET: the flag is written, then CET and CEST must differ (R203). -/
def ruleCet (v : Bool) (s : State) : State :=
  let t := updateWrite (fun r => { r with isCet := v }) s
  advance (raiseWhen ((writeSlot t).isCet == (writeSlot t).isCest) .cetCest t)

/-- LEAP (R204). -/
def ruleLeap (v : Bool) (s : State) : State :=
  advance (updateWrite (fun r => { r with leapPending := v }) s)

/-! ## Start of time and the parity positions: the check, then the reset and the zeroing, in every case (D40) -/

/-- The parity accumulator starts again. -/
def clearParity (s : State) : State := { s with parity := false }

/-- START_TIME expects logical 1; zeroes the minute digits (R205). -/
def ruleStartTime (v : Bool) (s : State) : State :=
  advance (updateWrite (fun r => { r with minT := digitChar 0, minO := digitChar 0 })
    (clearParity (raiseWhen (!v) .startTime s)))

/-- PARITY_MINUTE; zeroes the hour digits (R208). -/
def ruleParityMinute (v : Bool) (s : State) : State :=
  advance (updateWrite (fun r => { r with hourT := digitChar 0, hourO := digitChar 0 })
    (clearParity (raiseWhen (parityFails s.parity v) .parityMinute s)))

/-- The seven date characters set to '0' (R211). -/
def zeroDate (r : TimeRecord) : TimeRecord :=
  { r with
    dayT := digitChar 0
    dayO := digitChar 0
    weekday := digitChar 0
    monthT := digitChar 0
    monthO := digitChar 0
    yearT := digitChar 0
    yearO := digitChar 0 }

/-- PARITY_HOUR; zeroes the date characters (R211). -/
def ruleParityHour (v : Bool) (s : State) : State :=
  advance (updateWrite zeroDate (clearParity (raiseWhen (parityFails s.parity v) .parityHour s)))

/-- PARITY_DATE: the parity check, then the verdict on the minute (R219). -/
def ruleParityDate (v : Bool) (s : State) : State :=
  let t := clearParity (raiseWhen (parityFails s.parity v) .parityDate s)
  advance { t with validTimeInfo := !t.minuteFault }

/-! ## Data positions (R206): bits 0 to 3 of a field go to the ones digit, the rest to the tens digit -/

/-- A data bit: into the parity accumulator, then ORed into its digit character by `f`. -/
def dataBit (f : TimeRecord → TimeRecord) (v : Bool) (s : State) : State :=
  advance (updateWrite f { s with parity := parityNext s.parity v })

/-- The record with minute bit `k` ORed in (R207). -/
def minuteBit (k : Nat) (v : Bool) (r : TimeRecord) : TimeRecord :=
  if k < 4 then { r with minO := orBit r.minO k v } else { r with minT := orBit r.minT (k - 4) v }

/-- The record with hour bit `k` ORed in (R209). -/
def hourBit (k : Nat) (v : Bool) (r : TimeRecord) : TimeRecord :=
  if k < 4 then { r with hourO := orBit r.hourO k v } else { r with hourT := orBit r.hourT (k - 4) v }

/-- The record with day bit `k` ORed in (R212). -/
def dayBit (k : Nat) (v : Bool) (r : TimeRecord) : TimeRecord :=
  if k < 4 then { r with dayO := orBit r.dayO k v } else { r with dayT := orBit r.dayT (k - 4) v }

/-- The record with weekday bit `k` ORed in (R213). -/
def weekdayBit (k : Nat) (v : Bool) (r : TimeRecord) : TimeRecord :=
  { r with weekday := orBit r.weekday k v }

/-- The record with month bit `k` ORed in; the tens digit takes one bit (R214). -/
def monthBit (k : Nat) (v : Bool) (r : TimeRecord) : TimeRecord :=
  if k < 4 then { r with monthO := orBit r.monthO k v } else { r with monthT := orBit r.monthT 0 v }

/-- The record with year bit `k` ORed in (R215). -/
def yearBit (k : Nat) (v : Bool) (r : TimeRecord) : TimeRecord :=
  if k < 4 then { r with yearO := orBit r.yearO k v } else { r with yearT := orBit r.yearT (k - 4) v }

/-! ## End of minute -/

/-- Whether a ZERO at END_OF_MINUTE may extend the minute: the leap second was announced, or need not be (R224, R12). -/
def leapAnnounced (s : State) : Bool := (writeSlot s).leapPending || !s.cfg.leapRequiresAnnounce

/-- END_OF_MINUTE with a logical bit: ZERO is the leap-second extension, once and when announced (R224); anything else is a
bad end marker (R225). The MARKER is `minuteBoundary` (R220). -/
def ruleEndOfMinute (v : Bool) (s : State) : State :=
  if !v && leapAnnounced s && !s.leapExt then { s with leapExt := true, secCount := 60 }
  else raiseFault .endOfMinute s

/-! ## The step -/

/-- The position's own rule for a logical bit `v` (the last part of R191). NOT_SYNCED and the undefined values have none:
`secondStep` ends before it gets here. -/
def positionRule (q : Position) (v : Bool) (s : State) : State :=
  match q with
  | .notSynced => s
  | .undefined => s
  | .startOfMinute => ruleStartOfMinute v s
  | .ignore => ruleIgnore s
  | .newTz => ruleNewTz v s
  | .cest => ruleCest v s
  | .cet => ruleCet v s
  | .leap => ruleLeap v s
  | .startTime => ruleStartTime v s
  | .minute k => dataBit (minuteBit k v) v s
  | .parityMinute => ruleParityMinute v s
  | .hour k => dataBit (hourBit k v) v s
  | .parityHour => ruleParityHour v s
  | .day k => dataBit (dayBit k v) v s
  | .weekday k => dataBit (weekdayBit k v) v s
  | .month k => dataBit (monthBit k v) v s
  | .year k => dataBit (yearBit k v) v s
  | .parityDate => ruleParityDate v s
  | .endOfMinute => ruleEndOfMinute v s

/-- A MARKER in a position 0 to 59: before position 59 it is the fault NOT_END_OF_MINUTE, and in every position it is the
minute boundary (R195, R220). -/
def markerStep (q : Position) (s : State) : State :=
  minuteBoundary (raiseWhen (decide (q ≠ .endOfMinute)) .notEndOfMinute s)

/-- A classified second in a position 0 to 59: INVALID first, then the MARKER, then the position's rule (R191, R194). -/
def classStep (q : Position) (c : Cls) (s : State) : State :=
  match c with
  | .invalid => raiseFault .bitState s
  | .marker => markerStep q s
  | .one => positionRule q true s
  | .zero => positionRule q false s

/-- `SecondStep(cls)` (R191), its checks in the rule's order: NOT_SYNCED does nothing (R192), an undefined state is a fault
(R193), then the classification is looked at. -/
def secondStep (c : Cls) (s : State) : State :=
  match position s with
  | .notSynced => s
  | .undefined => raiseFault .undefinedState s
  | q => classStep q c s

end Sys2Proof.Machine
end

