-- ==== Sys2Proof/Machine/Sampler.lean ====
section
/-! DEFINITION. The bit sampler (41_bit_sampler): TICK. -/

namespace Sys2Proof.Machine

/-- The tick's own sample is counted in the window its position is in (R171, R172). -/
def countSample (p : BitVec 1) (s : State) : State :=
  { s with
    voteA := if inWindowA s.tickPos then s.voteA + pinVote p else s.voteA
    voteB := if inWindowB s.tickPos then s.voteB + pinVote p else s.voteB }

/-- The votes and the tick position start a new second (R172). -/
def startSecond (s : State) : State := { s with voteA := 0, voteB := 0, tickPos := 0 }

/-- The second boundary: the votes classify the second, and the classification reaches the decoder only while locked (R172,
R176). -/
def closeSecond (s : State) : State :=
  let c := classify s.voteA s.voteB
  if locked s then secondStep c (startSecond s) else startSecond s

/-- TICK p (R172). The second boundary is the tick at position N-1, its own sample counted (R175). -/
def execTick (p : BitVec 1) (s : State) : Host.Outcome State Fault Refusal :=
  .next (
    let t := countSample p s
    if s.tickPos = s.cfg.ticksPerSec - 1 then closeSecond t else { t with tickPos := s.tickPos + 1 })

end Sys2Proof.Machine
end

