-- ==== Sys2Proof/Machine/Dispatch.lean ====
section
/-! DEFINITION. The dispatch: one arm per command, each a direct call of its meaning. -/

namespace Sys2Proof.Machine

def exec (i : Instr) (s : State) : Host.Outcome State Fault Refusal :=
  match i with
  | .tick p => Sys2Proof.Machine.execTick p s
  | .edge => Sys2Proof.Machine.execEdge s
  | .cnt => Sys2Proof.Machine.execCnt s
  | .rdrec => Sys2Proof.Machine.execRdrec s
  | .rdstat => Sys2Proof.Machine.execRdstat s
  | .rdsec => Sys2Proof.Machine.execRdsec s
  | .ack m => Sys2Proof.Machine.execAck m s
  | .dgflt => Sys2Proof.Machine.execDgflt s
  | .dgcnt => Sys2Proof.Machine.execDgcnt s
  | .reset => Sys2Proof.Machine.execReset s

end Sys2Proof.Machine
end

