-- ==== Sys2Proof/Machine/Step.lean ====
section
/-! DEFINITION. One step: the next presented command word is decoded and run as one atomic event (00_scope R16, 20_memory
R85). -/

namespace Sys2Proof.Machine

/-- One step. With no command presented the block waits and nothing changes (70_reset R333; log entry 3); a reserved word is
refused and nothing is done (30_encoding R113). -/
def step (s : State) : Host.Outcome State Fault Refusal :=
  match fetchCommand s with
  | none => .next s
  | some (w, t) =>
    match decode w with
    | .command i => exec i t
    | .reserved why => .refused (.reservedWord w why)

/-- `s` with the table word `w` of `nbits` bits as the next command word (log entry 3). -/
def State.withFetchWord (s : State) (nbits w : Nat) : State :=
  presentCommand (BitVec.ofNat 8 (w % 2 ^ nbits)) s

end Sys2Proof.Machine
end

