-- ==== Sys2Proof/Machine/Script.lean ====
section
/-! DEFINITION. Event scripts: the assembly form of a command (30_encoding R115), the pseudo-commands and their expansion
(R116), and a run of commands (70_reset R349). Text is a list of characters. -/

namespace Sys2Proof.Machine

/-! ## Assembly lines (R115) -/

/-- The mnemonic of a command. -/
def mnemonic : Instr → List Char
  | .tick _ => ['T', 'I', 'C', 'K']
  | .edge => ['E', 'D', 'G', 'E']
  | .cnt => ['C', 'N', 'T']
  | .rdrec => ['R', 'D', 'R', 'E', 'C']
  | .rdstat => ['R', 'D', 'S', 'T', 'A', 'T']
  | .rdsec => ['R', 'D', 'S', 'E', 'C']
  | .ack _ => ['A', 'C', 'K']
  | .dgflt => ['D', 'G', 'F', 'L', 'T']
  | .dgcnt => ['D', 'G', 'C', 'N', 'T']
  | .reset => ['R', 'E', 'S', 'E', 'T']

/-- The operand of a command as a decimal digit, after a space; empty where it has none. -/
def operandText : Instr → List Char
  | .tick p => [' ', Char.ofNat (48 + p.toNat)]
  | .ack m => [' ', Char.ofNat (48 + m.toNat)]
  | _ => []

/-- The assembly form of a command. -/
def assembly (i : Instr) : List Char := mnemonic i ++ operandText i

/-- A line without its comment: `;` starts one. -/
def dropComment : List Char → List Char
  | [] => []
  | c :: cs => if c = ';' then [] else c :: dropComment cs

/-- The words of a line, `cur` being the reversed start of the word under way. -/
def wordsFrom (cur : List Char) : List Char → List (List Char)
  | [] => if cur = [] then [] else [cur.reverse]
  | c :: cs =>
    if c = ' ' ∨ c = '\t' ∨ c = '\r' then
      (if cur = [] then wordsFrom [] cs else cur.reverse :: wordsFrom [] cs)
    else wordsFrom (c :: cur) cs

/-- The value of a digit in a base. -/
def digitValue (base : Nat) (c : Char) : Option Nat :=
  let n := c.toNat
  let v :=
    if 48 ≤ n ∧ n ≤ 57 then n - 48
    else if 97 ≤ n ∧ n ≤ 102 then n - 87
    else if 65 ≤ n ∧ n ≤ 70 then n - 55
    else 16
  if v < base then some v else none

/-- The value of digits in a base, continuing from `acc`. -/
def digitsValue (base acc : Nat) : List Char → Option Nat
  | [] => some acc
  | c :: cs =>
    match digitValue base c with
    | none => none
    | some v => digitsValue base (acc * base + v) cs

/-- An operand "in decimal or with `0b`/`0x`". -/
def number : List Char → Option Nat
  | [] => none
  | ['0', 'b'] => none
  | ['0', 'x'] => none
  | '0' :: 'b' :: cs => digitsValue 2 0 cs
  | '0' :: 'x' :: cs => digitsValue 16 0 cs
  | cs => digitsValue 10 0 cs

/-- The command of a mnemonic with its operand, if any; none where the mnemonic takes no such operand. -/
def commandOf (m : List Char) (operand : Option Nat) : Option Instr :=
  match operand with
  | none => [Instr.edge, .cnt, .rdrec, .rdstat, .rdsec, .dgflt, .dgcnt, .reset].find? (fun i => mnemonic i == m)
  | some n =>
    if m = mnemonic (.tick 0) then (if n < 2 then some (.tick (BitVec.ofNat 1 n)) else none)
    else if m = mnemonic (.ack 0) then (if n < 4 then some (.ack (BitVec.ofNat 2 n)) else none)
    else none

/-- The command on a line; none where the line is not one command. -/
def parseLine (line : List Char) : Option Instr :=
  match wordsFrom [] (dropComment line) with
  | [m] => commandOf m none
  | [m, n] =>
    match number n with
    | none => none
    | some v => commandOf m (some v)
  | _ => none

/-- The commands of the lines of a script, top to bottom (R115). DESIGN CHOICE: a line with no words, be it blank (empty or
whitespace only) or nothing but a comment, is passed over, and a script that breaks the rule's "One command per line" is
none; R115 gives neither case (log entry 10). -/
def parseLines : List (List Char) → Option (List Instr)
  | [] => some []
  | l :: ls =>
    if wordsFrom [] (dropComment l) = [] then parseLines ls
    else
      match parseLine l, parseLines ls with
      | some i, some is => some (i :: is)
      | _, _ => none

/-! ## Pseudo-commands (R116) -/

/-- A script of plain commands and pseudo-commands, one per constructor, each followed by the rest of the script. -/
inductive Script where
  | done
  | command (i : Instr) (rest : Script)
  /-- `WAIT k` -/
  | wait (k : Nat) (rest : Script)
  /-- `SEC c` -/
  | sec (c : Cls) (rest : Script)
  /-- `SECS s` -/
  | secs (cs : List Cls) (rest : Script)
  /-- `REP n`, with its enclosed lines -/
  | rep (n : Nat) (body rest : Script)
  deriving DecidableEq, Repr

/-- The second a letter of `SEC` and `SECS` names. -/
def symbolClass (c : Char) : Option Cls :=
  if c = '1' then some .one
  else if c = '0' then some .zero
  else if c = 'M' then some .marker
  else if c = 'X' then some .invalid
  else none

/-- The pin level in window A for a second of class `c`: the `a` of R116. -/
def levelA : Cls → BitVec 1
  | .one => 0
  | .zero => 0
  | .marker => 1
  | .invalid => 1

/-- The pin level in window B for a second of class `c`: the `b` of R116. -/
def levelB : Cls → BitVec 1
  | .one => 0
  | .zero => 1
  | .marker => 1
  | .invalid => 0

/-- The pin level of the `t`-th tick of a second of class `c` (R116). -/
def levelAt (c : Cls) (t : Nat) : BitVec 1 :=
  if inWindowA t then levelA c else if inWindowB t then levelB c else 0

/-- `SEC c`: N TICK commands (R116), with `n` for N. -/
def secondCommands (n : Nat) (c : Cls) : List Instr :=
  (List.range n).map (fun t => .tick (levelAt c t))

/-- `WAIT k`: CNT, k times (R116). -/
def waitCommands (k : Nat) : List Instr := List.replicate k .cnt

/-- The plain commands a script stands for (R116), with `n` for N. -/
def expand (n : Nat) : Script → List Instr
  | .done => []
  | .command i rest => i :: expand n rest
  | .wait k rest => waitCommands k ++ expand n rest
  | .sec c rest => secondCommands n c ++ expand n rest
  | .secs cs rest => cs.flatMap (secondCommands n) ++ expand n rest
  | .rep k body rest => (List.replicate k (expand n body)).flatten ++ expand n rest

/-! ## A run (R349) -/

/-- The commands of a list, one event after the other, stopping at the first stop. -/
def runCommands : List Instr → State → Host.Outcome State Fault Refusal
  | [], s => .next s
  | i :: is, s =>
    match exec i s with
    | .next t => runCommands is t
    | .fault r => .fault r
    | .refused r => .refused r

end Sys2Proof.Machine
end

