-- ==== Sys2Proof/Machine/Telegram.lean ====
section
/-! DEFINITION. The telegram the decoder is for: the 59 data bits of a minute by position (00_scope R13, 30_encoding R125,
the layout of 42_decoder R206), and the record they stand for. The decoder never reads this file; the rules about whole
telegrams (R231, R232) are stated with it. -/

namespace Sys2Proof.Machine

/-- The data of one structurally valid telegram (R232): CET is the opposite of CEST, the marker bits and the parity bits
follow. Digits outside their ranges are allowed (R210). -/
structure Telegram where
  /-- positions 1 to 15, ignored -/
  call : BitVec 15
  tzChange : Bool
  isCest : Bool
  leapPending : Bool
  minO : BitVec 4
  minT : BitVec 3
  hourO : BitVec 4
  hourT : BitVec 2
  dayO : BitVec 4
  dayT : BitVec 2
  weekday : BitVec 3
  monthO : BitVec 4
  monthT : BitVec 1
  yearO : BitVec 4
  yearT : BitVec 4
  deriving DecidableEq, Repr

/-- The bits of a field as they are received, least significant first (R206). -/
def lsbFirst (n : Nat) (v : BitVec n) : List Bool := (List.range n).map v.getLsbD

/-- The XOR of a list of bits (R216). -/
def xorBits : List Bool → Bool
  | [] => false
  | b :: bs => b.xor (xorBits bs)

/-- Positions 21 to 27. -/
def minuteBits (m : Telegram) : List Bool := lsbFirst 4 m.minO ++ lsbFirst 3 m.minT

/-- Positions 29 to 34. -/
def hourBits (m : Telegram) : List Bool := lsbFirst 4 m.hourO ++ lsbFirst 2 m.hourT

/-- Positions 36 to 57. -/
def dateBits (m : Telegram) : List Bool :=
  lsbFirst 4 m.dayO ++ lsbFirst 2 m.dayT ++ lsbFirst 3 m.weekday ++ lsbFirst 4 m.monthO ++ lsbFirst 1 m.monthT ++
    lsbFirst 4 m.yearO ++ lsbFirst 4 m.yearT

/-- The 59 bits of positions 0 to 58, each group with its even parity bit (R216). -/
def telegramBits (m : Telegram) : List Bool :=
  [false] ++ lsbFirst 15 m.call ++ [m.tzChange, m.isCest, !m.isCest, m.leapPending] ++ [true] ++
    minuteBits m ++ [xorBits (minuteBits m)] ++ hourBits m ++ [xorBits (hourBits m)] ++
    dateBits m ++ [xorBits (dateBits m)]

/-- The digit character of a BCD digit of `n` bits (R206, R210). -/
def bcdChar (n : Nat) (d : BitVec n) : Byte := digitChar 0 ||| d.setWidth 8

/-- The record a telegram stands for (R206). -/
def telegramRecord (m : Telegram) : TimeRecord :=
  { minT := bcdChar 3 m.minT
    minO := bcdChar 4 m.minO
    hourT := bcdChar 2 m.hourT
    hourO := bcdChar 4 m.hourO
    dayT := bcdChar 2 m.dayT
    dayO := bcdChar 4 m.dayO
    monthT := bcdChar 1 m.monthT
    monthO := bcdChar 4 m.monthO
    yearT := bcdChar 4 m.yearT
    yearO := bcdChar 4 m.yearO
    weekday := bcdChar 3 m.weekday
    tzChange := m.tzChange
    isCest := m.isCest
    isCet := !m.isCest
    leapPending := m.leapPending }

/-- The classification that carries a logical bit (R18). -/
def bitClass (v : Bool) : Cls := if v then .one else .zero

/-- The decoder steps of consecutive seconds (R191). -/
def secondSteps (cs : List Cls) (s : State) : State := cs.foldl (fun t c => secondStep c t) s

/-- A list of bits with the one at index `i` flipped. -/
def flipBit (i : Nat) (bs : List Bool) : List Bool := bs.modify i not

end Sys2Proof.Machine
end

