-- ==== Sys2Proof/Safety.lean ====
section
/-! DEFINITION. What every legal state of the block satisfies (42_decoder R230 and the ranges of 10_state), when a run is
safe from refusals, and when two states cannot be told apart by the consumer (42_decoder R231, 10_state R46). -/

namespace Sys2Proof.Machine

/-! ## The invariant -/

/-- R230.1: locked exactly when the decoder is synchronized. -/
abbrev lockAgrees (s : State) : Prop := s.syncRun = 3 ↔ s.dstate ≠ 63

/-- R230.2: `dstate` is in 0 to 59 or is 63. -/
abbrev positionNamed (s : State) : Prop := s.dstate ≤ 59 ∨ s.dstate = 63

/-- R230.3: the second counter follows the position, or stands at 60 in the leap second. -/
abbrev secondFollows (s : State) : Prop :=
  s.dstate ≤ 59 →
    (s.leapExt = false → s.secCount = s.dstate) ∧ (s.leapExt = true → s.secCount = 60 ∧ s.dstate = 59)

/-- R230.4, R48: the two roles are at different slots. -/
abbrev rolesDiffer (s : State) : Prop := s.readIndex ≠ s.writeIndex

/-- R43, R219: a minute is valid only after PARITY_DATE and with no fault in it. -/
abbrev verdictSound (s : State) : Prop := s.validTimeInfo = true → s.minuteFault = false ∧ s.dstate = 59

/-- The ranges of R33, R36, R45, R58 (and of the parameters, R6-R11). -/
abbrev countersInRange (s : State) : Prop :=
  s.cfg.wf ∧ s.edgeCnt ≤ s.cfg.edgeCntMax ∧ s.tickPos < s.cfg.ticksPerSec ∧ s.secCount ≤ 60 ∧ s.errCount ≤ s.cfg.errCntMax

/-- R37, R38: a vote counter holds no more than the samples its window has had in this second, so it cannot pass 3. -/
abbrev votesInRange (s : State) : Prop :=
  s.voteA.toNat ≤ min 3 (s.tickPos - 1) ∧ s.voteB.toNat ≤ min 3 (s.tickPos - 8)

/-- R55-R57, R126: the latch holds a code of a kind, or is empty with its state and position 0. -/
abbrev latchCoherent (s : State) : Prop :=
  s.lastError ≤ 10 ∧ (s.lastError = 0 → s.errorDecoderState = 0 ∧ s.errorPosition = 0)

/-- R52, R54: a fresh record is a published one. -/
abbrev freshPublished (s : State) : Prop := s.fresh = true → s.everPublished = true

/-- The invariant of the block between events. -/
abbrev Inv (s : State) : Prop :=
  lockAgrees s ∧ positionNamed s ∧ secondFollows s ∧ rolesDiffer s ∧ verdictSound s ∧ countersInRange s ∧
    votesInRange s ∧ latchCoherent s ∧ freshPublished s

/-! ## Runs without a refusal -/

/-- Every presented word is a command's: no reserved word (R113). -/
abbrev commandsLegal (s : State) : Prop := ∀ w ∈ s.commands, (decodedCommand (decode w)).isSome = true

/-! ## What the consumer cannot tell apart -/

/-- The fields of the write slot that this minute has written when the decoder is at position `n` agree (R231). -/
abbrev sameWritten (n : BitVec 6) (a b : TimeRecord) : Prop :=
  (17 ≤ n → a.tzChange = b.tzChange) ∧ (18 ≤ n → a.isCest = b.isCest) ∧ (19 ≤ n → a.isCet = b.isCet) ∧
  (20 ≤ n → a.leapPending = b.leapPending) ∧ (21 ≤ n → a.minT = b.minT ∧ a.minO = b.minO) ∧
  (29 ≤ n → a.hourT = b.hourT ∧ a.hourO = b.hourO) ∧
  (36 ≤ n → a.dayT = b.dayT ∧ a.dayO = b.dayO ∧ a.weekday = b.weekday ∧ a.monthT = b.monthT ∧ a.monthO = b.monthO ∧
    a.yearT = b.yearT ∧ a.yearO = b.yearO)

/-- Two states that differ at most in what no consumer may rely on: the fields of the write slot that this minute has not
written (R231), and the read slot before the first publish (R46, R335). -/
abbrev sameToConsumer (s t : State) : Prop :=
  t = { s with slot0 := t.slot0, slot1 := t.slot1, resetDraws := t.resetDraws } ∧
  rolesDiffer s ∧
  (s.dstate ≤ 59 → sameWritten s.dstate (writeSlot s) (writeSlot t)) ∧
  (s.everPublished = true → readSlot s = readSlot t)

end Sys2Proof.Machine
end

