-- ==== Sys2Proof/Certificates/Slice0/Obligations.lean ====
section
/-! DEFINITION. The statements for the provers, from the numbered rules of spec/. Each docstring names the rule. A next state
is written as the old one with the fields that change, so every equation also says that nothing else does. -/

open Sys2Proof Sys2Proof.Machine

/-! ## Command words (30_encoding) -/

/-- R112: the words of the command map decode to their commands, each operand at every value. -/
def Obligations.CommandMapDecodes : Prop :=
  decode 0x10 = .command (.tick 0) ∧ decode 0x11 = .command (.tick 1) ∧ decode 0x20 = .command .edge ∧
  decode 0x30 = .command .cnt ∧ decode 0x40 = .command .rdrec ∧ decode 0x50 = .command .rdstat ∧
  decode 0x60 = .command .rdsec ∧ decode 0x70 = .command (.ack 0) ∧ decode 0x71 = .command (.ack 1) ∧
  decode 0x72 = .command (.ack 2) ∧ decode 0x73 = .command (.ack 3) ∧ decode 0x80 = .command .dgflt ∧
  decode 0x90 = .command .dgcnt ∧ decode 0xFF = .command .reset

/-- R113: a step refuses the presented word exactly when the word is one of the rule's list. -/
def Obligations.ReservedWordsAreRefused : Prop :=
  ∀ (s : State) (w : Byte) (rest : List Byte), s.commands = w :: rest →
    let op := w.extractLsb' 4 4
    let opd := w.extractLsb' 0 4
    let listed := op = 0x0 ∨ op = 0xA ∨ op = 0xB ∨ op = 0xC ∨ op = 0xD ∨ op = 0xE ∨ (op = 0xF ∧ opd ≠ 0xF) ∨
      (op = 0x1 ∧ w.extractLsb' 1 3 ≠ 0) ∨ (op = 0x7 ∧ w.extractLsb' 2 2 ≠ 0) ∨
      ((op = 0x2 ∨ op = 0x3 ∨ op = 0x4 ∨ op = 0x5 ∨ op = 0x6 ∨ op = 0x8 ∨ op = 0x9) ∧ opd ≠ 0)
    (listed → ∃ why, step s = .refused (.reservedWord w why)) ∧ (¬ listed → ∃ t, step s = .next t)

/-- R111, R112: every well-formed command decodes from its word, and a word that decodes is its command's word, so no bit of
an encoding is dropped. -/
def Obligations.DecodeEncodeAgree : Prop :=
  (∀ i : Instr, i.wf = true → decode (encode i) = .command i) ∧
  (∀ (w : Byte) (i : Instr), decode w = .command i → encode i = w)

/-- R16, R89, R110: a step takes the first presented word and runs the command it decodes to, which every field of the state
but the stream of words sees as it was; a table word placed with `withFetchWord` is the one that runs. With no word
presented the block waits (R333); that waiting is a step that changes nothing is the model's choice (log entry 3). -/
def Obligations.StepRunsDecodedCommand : Prop :=
  (∀ (s : State) (w : Byte) (rest : List Byte) (i : Instr), s.commands = w :: rest → decode w = .command i →
    step s = exec i { s with commands := rest }) ∧
  (∀ (s : State) (i : Instr), step (s.withFetchWord 8 (encode i).toNat) = exec i s) ∧
  (∀ s : State, s.commands = [] → step s = .next s)

/-- R115: the assembly forms are the rule's own lines, and the assembly form of a command reads back as the command; an
operand may also be written with `0b` or `0x`, and `;` starts a comment. How the words of a line are parted (a blank before
the operand and around a comment), and which digits and leading zeros a number takes, are the model's choice (log entry
10). -/
def Obligations.AssemblyReadsBack : Prop :=
  (assembly (.tick 1) = "TICK 1".toList ∧ assembly (.tick 0) = "TICK 0".toList ∧ assembly .edge = "EDGE".toList ∧
    assembly .cnt = "CNT".toList ∧ assembly .rdrec = "RDREC".toList ∧ assembly .rdstat = "RDSTAT".toList ∧
    assembly .rdsec = "RDSEC".toList ∧ assembly (.ack 3) = "ACK 3".toList ∧ assembly .dgflt = "DGFLT".toList ∧
    assembly .dgcnt = "DGCNT".toList ∧ assembly .reset = "RESET".toList) ∧
  (∀ i : Instr, parseLine (assembly i) = some i) ∧
  (parseLine "TICK 0b1".toList = some (.tick 1) ∧ parseLine "TICK 0x0".toList = some (.tick 0) ∧
    parseLine "ACK 0b10".toList = some (.ack 2) ∧ parseLine "ACK 0x3".toList = some (.ack 3)) ∧
  (∀ (i : Instr) (comment : List Char), parseLine (assembly i ++ ';' :: comment) = some i)

/-- R114: a command with a response delivers exactly one, of its own width; a command without one delivers nothing. -/
def Obligations.ResponsesAsMapped : Prop :=
  ∀ (i : Instr) (s : State), ∃ t, exec i s = .next t ∧
    (responseBits i = none → t.responses = s.responses) ∧
    (responseBits i = some 96 → ∃ v : Vector Byte 12, t.responses = s.responses ++ [.record v]) ∧
    (responseBits i = some 8 → ∃ v : Byte, t.responses = s.responses ++ [.byte v]) ∧
    (responseBits i = some 16 → ∃ v : Half, t.responses = s.responses ++ [.half v])

/-! ## Completion and runs -/

/-- R348, R113: while no reserved word is presented the machine never stops, however long it runs. For the steps after the
last presented word (R333: the block waits) this rests on the model's choice that waiting is a step that changes nothing (log
entry 3). -/
def Obligations.LegalStreamsNeverStop : Prop :=
  ∀ (n : Nat) (s : State), commandsLegal s → ∃ t : State, Host.Core.run Sys2Proof.core n s = .next t ∧ commandsLegal t

/-- R89, R349: stepping through presented words is running their commands one event after the other. -/
def Obligations.RunOfPresentedWords : Prop :=
  ∀ (is : List Instr) (rest : List Byte) (s : State),
    Host.Core.run Sys2Proof.core is.length { s with commands := is.map encode ++ rest } =
      runCommands is { s with commands := rest }

/-- R59: the parameters are fixed for the life of an instance; the stream of words waiting is not touched by a command,
RESET included, which for the stream is the model's choice (log entry 3). -/
def Obligations.ParametersFixed : Prop :=
  ∀ (i : Instr) (s t : State), exec i s = .next t → t.cfg = s.cfg ∧ t.commands = s.commands

/-! ## Edge synchronizer (40_edge_sync) -/

/-- R152: one CNT, at and below the maximum. -/
def Obligations.CntCounts : Prop :=
  ∀ s : State,
    (s.edgeCnt ≠ s.cfg.edgeCntMax → exec .cnt s = .next { s with edgeCnt := s.edgeCnt + 1 }) ∧
    (s.edgeCnt = s.cfg.edgeCntMax → s.cfg.edgeCntOvf = .saturate → exec .cnt s = .next { s with edgeCnt := s.cfg.edgeCntMax }) ∧
    (s.edgeCnt = s.cfg.edgeCntMax → s.cfg.edgeCntOvf = .wrap → exec .cnt s = .next { s with edgeCnt := 0 })

/-- R116, R152: `WAIT k` from a cleared counter: the count is kept up to the maximum, then it saturates or wraps. -/
def Obligations.WaitCounts : Prop :=
  ∀ (k : Nat) (s : State), s.edgeCnt = 0 →
    (s.cfg.edgeCntOvf = .saturate → runCommands (waitCommands k) s = .next { s with edgeCnt := min k s.cfg.edgeCntMax }) ∧
    (s.cfg.edgeCntOvf = .wrap → runCommands (waitCommands k) s = .next { s with edgeCnt := k % (s.cfg.edgeCntMax + 1) })

/-- R154: the acceptance test in the rule's own form and as two closed windows, with the windows the rule works out for
`F = 1024` and `F = 1000`. -/
def Obligations.AcceptanceWindows : Prop :=
  (∀ f d : Nat, accept f d = true ↔ 16 * |(d : Int) - f| ≤ f ∨ 16 * |(d : Int) - 2 * f| ≤ 2 * f) ∧
  (∀ f d : Nat, accept f d = true ↔ (15 * f ≤ 16 * d ∧ 16 * d ≤ 17 * f) ∨ (30 * f ≤ 16 * d ∧ 16 * d ≤ 34 * f)) ∧
  (∀ d : Nat, accept 1024 d = true ↔ (960 ≤ d ∧ d ≤ 1088) ∨ (1920 ≤ d ∧ d ≤ 2176)) ∧
  (∀ d : Nat, accept 1000 d = true ↔ (938 ≤ d ∧ d ≤ 1062) ∨ (1875 ≤ d ∧ d ≤ 2125))

/-- R8, R152: with legal parameters a counter at its maximum is outside both windows, so an EDGE that finds it there never
advances the run. -/
def Obligations.FullCounterIsRejected : Prop :=
  ∀ s : State, s.cfg.wf → s.edgeCnt = s.cfg.edgeCntMax → s.syncRun ≠ 3 →
    exec .edge s = .next { s with edgeCnt := 0, syncRun := 0 }

/-- R155, R156, R157: an EDGE. While locked it clears the counter and does nothing else. While unlocked a rejected interval
clears the run, an accepted one adds to it, and the one that completes it locks. -/
def Obligations.EdgeMeasuresAndLocks : Prop :=
  ∀ s : State,
    (s.syncRun = 3 → exec .edge s = .next { s with edgeCnt := 0 }) ∧
    (s.syncRun ≠ 3 → accept s.cfg.edgeCntHz s.edgeCnt = false →
      exec .edge s = .next { s with edgeCnt := 0, syncRun := 0 }) ∧
    (s.syncRun ≠ 3 → accept s.cfg.edgeCntHz s.edgeCnt = true → s.syncRun ≠ 2 →
      exec .edge s = .next { s with edgeCnt := 0, syncRun := s.syncRun + 1 }) ∧
    (accept s.cfg.edgeCntHz s.edgeCnt = true → s.syncRun = 2 →
      exec .edge s = .next { s with
        edgeCnt := 0
        syncRun := 3
        tickPos := s.cfg.anchorOffset
        voteA := 0
        voteB := 0
        dstate := 0
        secCount := 0
        minuteFault := false
        validTimeInfo := false
        leapExt := false })

/-- R159, R302: from an unlocked block with the counter cleared, three waits of accepted length, each ended by an EDGE, lock
it and put the decoder at START_OF_MINUTE. -/
def Obligations.ThreeAcceptedIntervalsLock : Prop :=
  ∀ (s : State) (a b c : Nat), s.syncRun = 0 → s.edgeCnt = 0 →
    a ≤ s.cfg.edgeCntMax → b ≤ s.cfg.edgeCntMax → c ≤ s.cfg.edgeCntMax →
    accept s.cfg.edgeCntHz a = true → accept s.cfg.edgeCntHz b = true → accept s.cfg.edgeCntHz c = true →
    runCommands (waitCommands a ++ [.edge] ++ waitCommands b ++ [.edge] ++ waitCommands c ++ [.edge]) s =
      .next { s with
        syncRun := 3
        tickPos := s.cfg.anchorOffset
        voteA := 0
        voteB := 0
        dstate := 0
        secCount := 0
        minuteFault := false
        validTimeInfo := false
        leapExt := false }

/-! ## Bit sampler (41_bit_sampler) -/

/-- R172, R175: one TICK. The sample is counted in its window; at position N-1 the second is classified, its own sample
included, and reaches the decoder when locked. -/
def Obligations.TickSamplesAndClassifies : Prop :=
  ∀ (s : State) (p : BitVec 1),
    let va := if s.tickPos = 1 ∨ s.tickPos = 2 ∨ s.tickPos = 3 then s.voteA + p.setWidth 2 else s.voteA
    let vb := if s.tickPos = 8 ∨ s.tickPos = 9 ∨ s.tickPos = 10 then s.voteB + p.setWidth 2 else s.voteB
    let closed : State := { s with voteA := 0, voteB := 0, tickPos := 0 }
    (s.tickPos ≠ s.cfg.ticksPerSec - 1 →
      exec (.tick p) s = .next { s with voteA := va, voteB := vb, tickPos := s.tickPos + 1 }) ∧
    (s.tickPos = s.cfg.ticksPerSec - 1 → s.syncRun ≠ 3 → exec (.tick p) s = .next closed) ∧
    (s.tickPos = s.cfg.ticksPerSec - 1 → s.syncRun = 3 → va < 2 → vb < 2 →
      exec (.tick p) s = .next (secondStep .one closed)) ∧
    (s.tickPos = s.cfg.ticksPerSec - 1 → s.syncRun = 3 → va < 2 → 2 ≤ vb →
      exec (.tick p) s = .next (secondStep .zero closed)) ∧
    (s.tickPos = s.cfg.ticksPerSec - 1 → s.syncRun = 3 → 2 ≤ va → vb < 2 →
      exec (.tick p) s = .next (secondStep .invalid closed)) ∧
    (s.tickPos = s.cfg.ticksPerSec - 1 → s.syncRun = 3 → 2 ≤ va → 2 ≤ vb →
      exec (.tick p) s = .next (secondStep .marker closed))

/-- R173, R174, R120: the classification of two vote counters is `{a, b}`, each the majority of its window. -/
def Obligations.ClassificationIsMajorityPair : Prop :=
  ∀ va vb : BitVec 2,
    (classCode (classify va vb)).getLsbD 1 = decide (2 ≤ va) ∧ (classCode (classify va vb)).getLsbD 0 = decide (2 ≤ vb)

/-- R176: while unlocked a TICK changes the tick position and the votes and nothing else: no decoder step, no fault. -/
def Obligations.UnlockedTickKeepsTheRest : Prop :=
  ∀ (s : State) (p : BitVec 1), s.syncRun ≠ 3 → ∃ t : State, exec (.tick p) s = .next t ∧
    t = { s with tickPos := t.tickPos, voteA := t.voteA, voteB := t.voteB } ∧
    (s.tickPos = s.cfg.ticksPerSec - 1 → t.tickPos = 0 ∧ t.voteA = 0 ∧ t.voteB = 0) ∧
    (s.tickPos ≠ s.cfg.ticksPerSec - 1 → t.tickPos = s.tickPos + 1)

/-- R177: ticks that do not reach the last position of the second classify nothing: only the position and the votes move. -/
def Obligations.NoClassificationBeforeBoundary : Prop :=
  ∀ (pins : List (BitVec 1)) (s : State), pins.length + s.tickPos < s.cfg.ticksPerSec →
    ∃ t : State, runCommands (pins.map Instr.tick) s = .next t ∧
      t = { s with tickPos := s.tickPos + pins.length, voteA := t.voteA, voteB := t.voteB }

/-- R171 to R176 taken together: N TICKs from the start of a second are one decoder step on the classification
the two windows' samples give, or nothing while unlocked. -/
def Obligations.OneSecondIsOneDecoderStep : Prop :=
  ∀ (pins : List (BitVec 1)) (s : State), pins.length = s.cfg.ticksPerSec → 11 ≤ s.cfg.ticksPerSec →
    s.tickPos = 0 → s.voteA = 0 → s.voteB = 0 →
    let a := decide (2 ≤ (pins.getD 1 0).toNat + (pins.getD 2 0).toNat + (pins.getD 3 0).toNat)
    let b := decide (2 ≤ (pins.getD 8 0).toNat + (pins.getD 9 0).toNat + (pins.getD 10 0).toNat)
    runCommands (pins.map Instr.tick) s = .next (if s.syncRun = 3 then secondStep (classOfMajorities a b) s else s)

/-- R116: `SEC c` from the start of a second gives the decoder the class `c`. -/
def Obligations.SecPseudoCommandClassifies : Prop :=
  ∀ (c : Cls) (s : State), 11 ≤ s.cfg.ticksPerSec → s.tickPos = 0 → s.voteA = 0 → s.voteB = 0 →
    runCommands (secondCommands s.cfg.ticksPerSec c) s = .next (if s.syncRun = 3 then secondStep c s else s)

/-! ## Protocol decoder (42_decoder) -/

/-- R192, R193, R194, in the order of R191: NOT_SYNCED does nothing whatever the classification; the values 60, 61 and 62
raise UNDEFINED_STATE whatever the classification, an empty latch recording the raw value; INVALID in a position 0 to 59
raises BIT_STATE. Both faults drop to NOT_SYNCED and unlock, write no slot and keep the second counter. -/
def Obligations.ChecksBeforeThePosition : Prop :=
  ∀ (c : Cls) (s : State),
    let t := secondStep c s
    (s.dstate = 63 → t = s) ∧
    (60 ≤ s.dstate → s.dstate ≤ 62 →
      t = raiseFault .undefinedState s ∧ (s.lastError = 0 → t.errorDecoderState = s.dstate)) ∧
    (s.dstate ≤ 59 → c = .invalid → t = raiseFault .bitState s) ∧
    ((60 ≤ s.dstate ∧ s.dstate ≤ 62) ∨ (s.dstate ≤ 59 ∧ c = .invalid) →
      t.dstate = 63 ∧ t.syncRun = 0 ∧ t.slot0 = s.slot0 ∧ t.slot1 = s.slot1 ∧ t.secCount = s.secCount)

/-- R195: a MARKER before position 59 raises NOT_END_OF_MINUTE and is the minute boundary of an invalid minute. -/
def Obligations.EarlyMarkerFallsBack : Prop :=
  ∀ s : State, s.dstate ≤ 58 →
    let u := raiseFault .notEndOfMinute s
    secondStep .marker s =
      { (if s.everPublished then setSlot s.readIndex (advanceMinute (readSlot s)) u else u) with
        needsFallback := true
        dstate := 0
        secCount := 0
        minuteFault := false
        validTimeInfo := false
        leapExt := false }

/-- R196, R197: START_OF_MINUTE expects logical 0 and goes on anyway; the fifteen ignored positions only advance. -/
def Obligations.StartAndIgnoredPositions : Prop :=
  ∀ (v : Bool) (s : State),
    (s.dstate = 0 → secondStep (bitClass v) s =
      { (if v then raiseFault .startOfMinute s else s) with dstate := 1, secCount := s.secCount + 1 }) ∧
    (1 ≤ s.dstate → s.dstate ≤ 15 → secondStep (bitClass v) s =
      { s with dstate := s.dstate + 1, secCount := s.secCount + 1 })

/-- R200, R201, R203, R204: each flag position assigns its flag of the write slot; CET then requires CET and CEST to
differ. -/
def Obligations.FlagPositionsAssign : Prop :=
  ∀ (v : Bool) (s : State),
    (s.dstate = 16 → secondStep (bitClass v) s =
      { setSlot s.writeIndex { writeSlot s with tzChange := v } s with dstate := 17, secCount := s.secCount + 1 }) ∧
    (s.dstate = 17 → secondStep (bitClass v) s =
      { setSlot s.writeIndex { writeSlot s with isCest := v } s with dstate := 18, secCount := s.secCount + 1 }) ∧
    (s.dstate = 18 →
      let t := setSlot s.writeIndex { writeSlot s with isCet := v } s
      secondStep (bitClass v) s =
        { (if v = (writeSlot s).isCest then raiseFault .cetCest t else t) with dstate := 19, secCount := s.secCount + 1 }) ∧
    (s.dstate = 19 → secondStep (bitClass v) s =
      { setSlot s.writeIndex { writeSlot s with leapPending := v } s with dstate := 20, secCount := s.secCount + 1 })

/-- R205: START_TIME expects logical 1, resets the parity and zeroes the minute digits, on a mismatch too. -/
def Obligations.StartTimePosition : Prop :=
  ∀ (v : Bool) (s : State), s.dstate = 20 → secondStep (bitClass v) s =
    { setSlot s.writeIndex { writeSlot s with minT := 0x30, minO := 0x30 }
        (if v then s else raiseFault .startTime s) with
      parity := false
      dstate := 21
      secCount := s.secCount + 1 }

/-- R207, R209: the minute and hour positions: bits 0 to 3 into the ones digit, the rest into the tens digit, least
significant first, and into the parity. -/
def Obligations.TimeBitsAccumulate : Prop :=
  ∀ (v : Bool) (k : Nat) (s : State),
    let w := writeSlot s
    let bit := fun j => if v then 1#8 <<< j else 0
    let after := fun r : TimeRecord =>
      { setSlot s.writeIndex r s with
        parity := s.parity.xor v, dstate := s.dstate + 1, secCount := s.secCount + 1 }
    (k < 4 → s.dstate.toNat = 21 + k → secondStep (bitClass v) s = after { w with minO := w.minO ||| bit k }) ∧
    (k < 3 → s.dstate.toNat = 25 + k → secondStep (bitClass v) s = after { w with minT := w.minT ||| bit k }) ∧
    (k < 4 → s.dstate.toNat = 29 + k → secondStep (bitClass v) s = after { w with hourO := w.hourO ||| bit k }) ∧
    (k < 2 → s.dstate.toNat = 33 + k → secondStep (bitClass v) s = after { w with hourT := w.hourT ||| bit k })

/-- R212 to R215: the day, weekday, month and year positions, in the same way. -/
def Obligations.DateBitsAccumulate : Prop :=
  ∀ (v : Bool) (k : Nat) (s : State),
    let w := writeSlot s
    let bit := fun j => if v then 1#8 <<< j else 0
    let after := fun r : TimeRecord =>
      { setSlot s.writeIndex r s with
        parity := s.parity.xor v, dstate := s.dstate + 1, secCount := s.secCount + 1 }
    (k < 4 → s.dstate.toNat = 36 + k → secondStep (bitClass v) s = after { w with dayO := w.dayO ||| bit k }) ∧
    (k < 2 → s.dstate.toNat = 40 + k → secondStep (bitClass v) s = after { w with dayT := w.dayT ||| bit k }) ∧
    (k < 3 → s.dstate.toNat = 42 + k → secondStep (bitClass v) s = after { w with weekday := w.weekday ||| bit k }) ∧
    (k < 4 → s.dstate.toNat = 45 + k → secondStep (bitClass v) s = after { w with monthO := w.monthO ||| bit k }) ∧
    (s.dstate.toNat = 49 → secondStep (bitClass v) s = after { w with monthT := w.monthT ||| bit 0 }) ∧
    (k < 4 → s.dstate.toNat = 50 + k → secondStep (bitClass v) s = after { w with yearO := w.yearO ||| bit k }) ∧
    (k < 4 → s.dstate.toNat = 54 + k → secondStep (bitClass v) s = after { w with yearT := w.yearT ||| bit k })

/-- R208, R211: PARITY_MINUTE and PARITY_HOUR compare, then reset the parity and zero the next field's digits, on a mismatch
too. -/
def Obligations.ParityPositionsCheckAndZero : Prop :=
  ∀ (v : Bool) (s : State),
    (s.dstate = 28 → secondStep (bitClass v) s =
      { setSlot s.writeIndex { writeSlot s with hourT := 0x30, hourO := 0x30 }
          (if s.parity = v then s else raiseFault .parityMinute s) with
        parity := false
        dstate := 29
        secCount := s.secCount + 1 }) ∧
    (s.dstate = 35 → secondStep (bitClass v) s =
      { setSlot s.writeIndex
          { writeSlot s with
            dayT := 0x30, dayO := 0x30, weekday := 0x30, monthT := 0x30, monthO := 0x30, yearT := 0x30, yearO := 0x30 }
          (if s.parity = v then s else raiseFault .parityHour s) with
        parity := false
        dstate := 36
        secCount := s.secCount + 1 })

/-- R219: PARITY_DATE checks, then gives the verdict: valid exactly when no fault was raised this minute, this check's
included. -/
def Obligations.ParityDateGivesVerdict : Prop :=
  ∀ (v : Bool) (s : State), s.dstate = 58 →
    (s.parity = v → secondStep (bitClass v) s =
      { s with parity := false, validTimeInfo := !s.minuteFault, dstate := 59, secCount := s.secCount + 1 }) ∧
    (s.parity ≠ v → secondStep (bitClass v) s =
      { raiseFault .parityDate s with parity := false, validTimeInfo := false, dstate := 59, secCount := s.secCount + 1 })

/-- R216: over each parity group, data bits then parity bit, the accumulator is the XOR of the data bits and a fault is
raised exactly when the group holds an odd number of ones. -/
def Obligations.ParityGroupsAreEven : Prop :=
  ∀ (g : Nat × Nat), g ∈ [(21, 7), (29, 6), (36, 22)] → ∀ (bits : List Bool) (v : Bool) (s : State),
    s.dstate.toNat = g.1 → bits.length = g.2 → s.parity = false → s.minuteFault = false →
    let t := secondSteps (bits.map bitClass) s
    let u := secondStep (bitClass v) t
    t.parity = xorBits bits ∧ t.minuteFault = false ∧ t.dstate.toNat = g.1 + g.2 ∧
      (u.minuteFault = true ↔ (bits ++ [v]).count true % 2 = 1)

/-- R220, R241, R243, R245: the MARKER at position 59 is the minute boundary. A valid minute is published: the roles swap in
that step. An invalid one falls back: the read slot's time advances when a record was ever published, and only the flag is
set when none was. -/
def Obligations.EndMarkerIsMinuteBoundary : Prop :=
  ∀ s : State, s.dstate = 59 →
    (s.validTimeInfo = true → secondStep .marker s =
      { s with
        writeIndex := s.readIndex
        readIndex := s.writeIndex
        fresh := true
        needsFallback := false
        everPublished := true
        dstate := 0
        secCount := 0
        minuteFault := false
        validTimeInfo := false
        leapExt := false }) ∧
    (s.validTimeInfo = false → secondStep .marker s =
      { (if s.everPublished then setSlot s.readIndex (advanceMinute (readSlot s)) s else s) with
        needsFallback := true
        dstate := 0
        secCount := 0
        minuteFault := false
        validTimeInfo := false
        leapExt := false })

/-- R224, R225: ZERO at END_OF_MINUTE extends the minute once when the leap second is announced (or need not be), and is a
bad end marker otherwise; ONE always is. -/
def Obligations.LeapExtensionOrBadEnd : Prop :=
  ∀ s : State, s.dstate = 59 →
    (((writeSlot s).leapPending = true ∨ s.cfg.leapRequiresAnnounce = false) → s.leapExt = false →
      secondStep .zero s = { s with leapExt := true, secCount := 60 }) ∧
    ((writeSlot s).leapPending = false → s.cfg.leapRequiresAnnounce = true →
      secondStep .zero s = raiseFault .endOfMinute s) ∧
    (s.leapExt = true → secondStep .zero s = raiseFault .endOfMinute s) ∧
    secondStep .one s = raiseFault .endOfMinute s

/-- R230 and the ranges of 10_state: every step keeps the invariant. -/
def Obligations.StepKeepsInvariant : Prop :=
  ∀ s t : State, Inv s → step s = .next t → Inv t

/-- R230: the invariant holds at reset (with the parameters State.reset takes, log entry 1). -/
def Obligations.InvariantAtReset : Prop := Inv State.reset

/-- R231, R46, R335: what the write slot held before this minute wrote it, and what the slots held after RESET, never reach
the consumer: two states that differ in nothing else step to two that differ in nothing else, with the same responses. RDREC
before the first publish is the one read this excepts. -/
def Obligations.OldSlotContentsNeverSurface : Prop :=
  ∀ (i : Instr) (s t : State), sameToConsumer s t → (i = .rdrec → s.everPublished = true) →
    ∃ s' t' : State, exec i s = .next s' ∧ exec i t = .next t' ∧ sameToConsumer s' t' ∧ t'.responses = s'.responses

/-- R232: a structurally valid telegram decodes, from the start of a minute without a fault, to its record and the verdict
valid, and its end marker publishes it; no fault is raised. -/
def Obligations.ValidTelegramIsPublished : Prop :=
  ∀ (m : Telegram) (s : State), s.dstate = 0 → s.secCount = 0 → s.minuteFault = false →
    let t : State := { setSlot s.writeIndex (telegramRecord m) s with
      dstate := 59, secCount := 59, parity := false, validTimeInfo := true }
    secondSteps ((telegramBits m).map bitClass) s = t ∧
    secondSteps ((telegramBits m).map bitClass ++ [.marker]) s =
      { t with
        writeIndex := s.readIndex
        readIndex := s.writeIndex
        fresh := true
        needsFallback := false
        everPublished := true
        dstate := 0
        secCount := 0
        validTimeInfo := false
        leapExt := false }

/-- R232: the same telegram with one data bit of a parity group flipped raises exactly one fault, that group's; the latch
takes it if it was empty, and the minute is not published but falls back. -/
def Obligations.FlippedBitIsOneParityFault : Prop :=
  ∀ (m : Telegram) (i at_ : Nat) (k : ErrorKind) (s : State),
    (21 ≤ i ∧ i ≤ 27 ∧ at_ = 28 ∧ k = .parityMinute) ∨ (29 ≤ i ∧ i ≤ 34 ∧ at_ = 35 ∧ k = .parityHour) ∨
      (36 ≤ i ∧ i ≤ 57 ∧ at_ = 58 ∧ k = .parityDate) →
    s.dstate = 0 → s.secCount = 0 → s.minuteFault = false → rolesDiffer s →
    let t := secondSteps ((flipBit i (telegramBits m)).map bitClass) s
    let u := secondStep .marker t
    t.dstate = 59 ∧ t.validTimeInfo = false ∧
    t.errCount = (if s.errCount < s.cfg.errCntMax then s.errCount + 1 else s.errCount) ∧
    (s.lastError = 0 → t.lastError = errorCode k ∧ t.errorDecoderState.toNat = at_ ∧ t.errorPosition.toNat = at_) ∧
    (s.lastError ≠ 0 → t.lastError = s.lastError ∧ t.errorDecoderState = s.errorDecoderState ∧
      t.errorPosition = s.errorPosition) ∧
    u.errCount = t.errCount ∧ u.lastError = t.lastError ∧
    u.writeIndex = s.writeIndex ∧ u.readIndex = s.readIndex ∧ u.fresh = s.fresh ∧ u.needsFallback = true ∧
    readSlot u = (if s.everPublished then advanceMinute (readSlot s) else readSlot s)

/-! ## Double buffer and fallback (43_publish_fallback) -/

/-- R246, R248: on digit characters of a time of day the fallback is one minute later, modulo a day, and touches nothing
else of the record. -/
def Obligations.AdvanceMinuteAddsOne : Prop :=
  ∀ (h m : Nat) (r : TimeRecord), h < 24 → m < 60 →
    let atTime := fun (h m : Nat) =>
      { r with
        hourT := digitChar (h / 10), hourO := digitChar (h % 10), minT := digitChar (m / 10), minO := digitChar (m % 10) }
    let n := (60 * h + m + 1) % 1440
    advanceMinute (atTime h m) = atTime (n / 60) (n % 60)

/-- R247: a character that is not its carry value is incremented as an 8-bit value, whatever it holds. -/
def Obligations.AdvanceMinuteCases : Prop :=
  ∀ r : TimeRecord,
    (r.minO ≠ 0x39 → advanceMinute r = { r with minO := r.minO + 1 }) ∧
    (r.minO = 0x39 → r.minT ≠ 0x35 → advanceMinute r = { r with minO := 0x30, minT := r.minT + 1 }) ∧
    (r.minO = 0x39 → r.minT = 0x35 → r.hourO ≠ 0x39 → ¬ (r.hourT = 0x32 ∧ r.hourO = 0x33) →
      advanceMinute r = { r with minO := 0x30, minT := 0x30, hourO := r.hourO + 1 }) ∧
    (r.minO = 0x39 → r.minT = 0x35 → r.hourO = 0x39 →
      advanceMinute r = { r with minO := 0x30, minT := 0x30, hourO := 0x30, hourT := r.hourT + 1 }) ∧
    (r.minO = 0x39 → r.minT = 0x35 → r.hourT = 0x32 → r.hourO = 0x33 →
      advanceMinute r = { r with minO := 0x30, minT := 0x30, hourO := 0x30, hourT := 0x30 })

/-- R242: nothing but the TICK that closes position 59 of a valid minute on a MARKER, while locked, publishes: no other
event moves a role, sets `fresh` or sets `ever_published`. -/
def Obligations.OnlyValidBoundaryPublishes : Prop :=
  ∀ (i : Instr) (s t : State), exec i s = .next t → i ≠ .reset →
    (t.writeIndex ≠ s.writeIndex ∨ t.readIndex ≠ s.readIndex ∨ (s.fresh = false ∧ t.fresh = true) ∨
      (s.everPublished = false ∧ t.everPublished = true)) →
    ∃ p, i = .tick p ∧ s.tickPos = s.cfg.ticksPerSec - 1 ∧ s.syncRun = 3 ∧ s.dstate = 59 ∧ s.validTimeInfo = true ∧
      classify (countSample p s).voteA (countSample p s).voteB = .marker

/-- R244, R92: every event leaves the pair of roles as it was or swaps both. -/
def Obligations.RolesSwapTogether : Prop :=
  ∀ (i : Instr) (s t : State), exec i s = .next t → i ≠ .reset →
    (t.writeIndex = s.writeIndex ∧ t.readIndex = s.readIndex) ∨ (t.writeIndex = s.readIndex ∧ t.readIndex = s.writeIndex)

/-- R49, R249, R344: the record the consumer sees changes only at a minute boundary (or RESET): a TICK at the last position
while locked and synchronized, on a MARKER. While NOT_SYNCED it stands still. -/
def Obligations.ReadSlotChangesOnlyAtBoundary : Prop :=
  ∀ (i : Instr) (s t : State), rolesDiffer s → exec i s = .next t → i ≠ .reset → readSlot t ≠ readSlot s →
    ∃ p, i = .tick p ∧ s.tickPos = s.cfg.ticksPerSec - 1 ∧ s.syncRun = 3 ∧ s.dstate ≤ 59 ∧
      classify (countSample p s).voteA (countSample p s).voteB = .marker

/-! ## Consumer ports and diagnostics (44_consumer_diag) -/

/-- R271, R81: RDREC delivers the read slot as the 12-byte image and changes nothing. -/
def Obligations.RdrecDeliversImage : Prop :=
  ∀ s : State,
    let r := readSlot s
    ∃ flags : Byte,
      flags.getLsbD 0 = r.tzChange ∧ flags.getLsbD 1 = r.isCest ∧ flags.getLsbD 2 = r.isCet ∧
      flags.getLsbD 3 = r.leapPending ∧ flags.extractLsb' 4 4 = 0 ∧
      exec .rdrec s = .next { s with
        responses := s.responses ++ [.record #v[r.minT, r.minO, r.hourT, r.hourO, r.dayT, r.dayO, r.monthT, r.monthO,
          r.yearT, r.yearO, r.weekday, flags]] }

/-- R273, R275: RDSTAT delivers the three flags in bits 2:0, RDSEC the second counter zero-extended; both change nothing. -/
def Obligations.RdstatAndRdsecDeliver : Prop :=
  ∀ s : State,
    (∃ v : Byte, v.getLsbD 0 = s.fresh ∧ v.getLsbD 1 = s.needsFallback ∧ v.getLsbD 2 = s.everPublished ∧
      v.extractLsb' 3 5 = 0 ∧ exec .rdstat s = .next { s with responses := s.responses ++ [.byte v] }) ∧
    (∃ v : Byte, v.toNat = s.secCount.toNat ∧ exec .rdsec s = .next { s with responses := s.responses ++ [.byte v] })

/-- R277: ACK clears the flags its mask names, and nothing else; it sets none. -/
def Obligations.AckClears : Prop :=
  ∀ (m : BitVec 2) (s : State), exec (.ack m) s = .next { s with
    fresh := s.fresh && !m.getLsbD 0
    needsFallback := s.needsFallback && !m.getLsbD 1 }

/-- R279: DGFLT delivers kind, decoder state and position in bits 15:12, 11:6 and 5:0 and empties the latch. -/
def Obligations.DgfltReadsAndClears : Prop :=
  ∀ s : State, ∃ v : Half,
    v.extractLsb' 12 4 = s.lastError ∧ v.extractLsb' 6 6 = s.errorDecoderState ∧ v.extractLsb' 0 6 = s.errorPosition ∧
    exec .dgflt s = .next { s with
      responses := s.responses ++ [.half v], lastError := 0, errorDecoderState := 0, errorPosition := 0 }

/-- R281: DGCNT delivers the fault counter and clears it, and not the latch. -/
def Obligations.DgcntReadsAndClears : Prop :=
  ∀ s : State, ∃ v : Half, v.toNat = s.errCount.toNat ∧
    exec .dgcnt s = .next { s with responses := s.responses ++ [.half v], errCount := 0 }

/-- R283: a second DGFLT, DGCNT with nothing between returns the no-fault state. -/
def Obligations.DiagnosticsReadTwice : Prop :=
  ∀ s : State, ∃ (a b : Half) (t : State), runCommands [.dgflt, .dgcnt, .dgflt, .dgcnt] s = .next t ∧
    t.responses = s.responses ++ [.half a, .half b, .half 0, .half 0]

/-! ## Faults and rights (60_exceptions) -/

/-- R300: the codes of the ten kinds in the rule's order, and the three that force NOT_SYNCED. -/
def Obligations.FaultKindCodes : Prop :=
  errorCode .undefinedState = 1 ∧ errorCode .startOfMinute = 2 ∧ errorCode .endOfMinute = 3 ∧
  errorCode .notEndOfMinute = 4 ∧ errorCode .cetCest = 5 ∧ errorCode .startTime = 6 ∧ errorCode .parityMinute = 7 ∧
  errorCode .parityHour = 8 ∧ errorCode .parityDate = 9 ∧ errorCode .bitState = 10 ∧
  ∀ k : ErrorKind, forcesNotSynced k = true ↔ k = .undefinedState ∨ k = .endOfMinute ∨ k = .bitState

/-- R301: the fault procedure: invalidate, count with saturation, latch the first, force where the kind does. -/
def Obligations.FaultProcedure : Prop :=
  ∀ (k : ErrorKind) (s : State),
    let t := raiseFault k s
    t.minuteFault = true ∧ t.validTimeInfo = false ∧
    (s.errCount < s.cfg.errCntMax → t.errCount.toNat = s.errCount.toNat + 1) ∧
    (s.cfg.errCntMax ≤ s.errCount → t.errCount = s.errCount) ∧
    (s.lastError = 0 → t.lastError = errorCode k ∧ t.errorDecoderState = s.dstate ∧ t.errorPosition = s.secCount) ∧
    (s.lastError ≠ 0 → t.lastError = s.lastError ∧ t.errorDecoderState = s.errorDecoderState ∧
      t.errorPosition = s.errorPosition) ∧
    (forcesNotSynced k = true → t.dstate = 63 ∧ t.syncRun = 0) ∧
    (forcesNotSynced k = false → t.dstate = s.dstate ∧ t.syncRun = s.syncRun) ∧
    t = { s with
      minuteFault := t.minuteFault, validTimeInfo := t.validTimeInfo, errCount := t.errCount, lastError := t.lastError,
      errorDecoderState := t.errorDecoderState, errorPosition := t.errorPosition, dstate := t.dstate, syncRun := t.syncRun }

/-- R304, R300: at most one fault in an event, and only a TICK at a second boundary while locked raises one: the counter
moves up by at most one, and then from such a TICK. -/
def Obligations.AtMostOneFaultPerEvent : Prop :=
  ∀ (i : Instr) (s t : State), exec i s = .next t → i ≠ .dgcnt → i ≠ .reset →
    t.errCount = s.errCount ∨
    (t.errCount = s.errCount + 1 ∧ s.errCount < s.cfg.errCntMax ∧ s.tickPos = s.cfg.ticksPerSec - 1 ∧ s.syncRun = 3 ∧
      ∃ p, i = .tick p)

/-- R305, R301: a full latch keeps its fault through every event but DGFLT and RESET. -/
def Obligations.FullLatchKeepsFirstFault : Prop :=
  ∀ (i : Instr) (s t : State), exec i s = .next t → i ≠ .dgflt → i ≠ .reset → s.lastError ≠ 0 →
    t.lastError = s.lastError ∧ t.errorDecoderState = s.errorDecoderState ∧ t.errorPosition = s.errorPosition

/-- R312: each context writes only its own row of the table, with one exception that R301 (d) makes to it: the tick source's
row does not list `sync_run` (R34), and a TICK whose decoder step raises a forcing fault clears it. A TICK does nothing else to
it. That the consumer and the diagnostics only clear is ConsumerOnlyClears. -/
def Obligations.ContextsWriteTheirRow : Prop :=
  ∀ (i : Instr) (s t : State), exec i s = .next t →
    (commandContext i = .tickSource → t.edgeCnt = s.edgeCnt ∧ t.responses = s.responses ∧ t.resetDraws = s.resetDraws ∧
      (t.syncRun = s.syncRun ∨ t.syncRun = 0)) ∧
    (commandContext i = .edgeSource → t = { s with
      edgeCnt := t.edgeCnt, syncRun := t.syncRun, tickPos := t.tickPos, voteA := t.voteA, voteB := t.voteB,
      dstate := t.dstate, secCount := t.secCount, minuteFault := t.minuteFault, validTimeInfo := t.validTimeInfo,
      leapExt := t.leapExt }) ∧
    (commandContext i = .counterClock → t = { s with edgeCnt := t.edgeCnt }) ∧
    (commandContext i = .consumer → t = { s with
      fresh := t.fresh, needsFallback := t.needsFallback, responses := t.responses }) ∧
    (commandContext i = .diagnostics → t = { s with
      lastError := t.lastError, errorDecoderState := t.errorDecoderState, errorPosition := t.errorPosition,
      errCount := t.errCount, responses := t.responses })

/-- R313: the consumer and its diagnostics write no record, role, counter of seconds, decoder or sampler state and cannot
set a flag, a latch or the counter. -/
def Obligations.ConsumerOnlyClears : Prop :=
  ∀ (i : Instr) (s t : State), commandContext i = .consumer ∨ commandContext i = .diagnostics → exec i s = .next t →
    t.slot0 = s.slot0 ∧ t.slot1 = s.slot1 ∧ t.writeIndex = s.writeIndex ∧ t.readIndex = s.readIndex ∧
    t.secCount = s.secCount ∧ t.dstate = s.dstate ∧ t.parity = s.parity ∧ t.minuteFault = s.minuteFault ∧
    t.validTimeInfo = s.validTimeInfo ∧ t.leapExt = s.leapExt ∧ t.edgeCnt = s.edgeCnt ∧ t.syncRun = s.syncRun ∧
    t.tickPos = s.tickPos ∧ t.voteA = s.voteA ∧ t.voteB = s.voteB ∧ t.everPublished = s.everPublished ∧
    (t.fresh = true → s.fresh = true) ∧ (t.needsFallback = true → s.needsFallback = true) ∧
    (t.lastError = s.lastError ∨ t.lastError = 0) ∧ (t.errCount = s.errCount ∨ t.errCount = 0)

/-! ## Reset (70_reset_and_hazards) -/

/-- R330: RESET sets every element to its value; the slots hold any value, so nothing is said of them. The parameters stay
(R59). That RESET leaves the waiting words and the delivered responses is the model's choice (log entries 3 and 4): R59
counts neither as the block's state. -/
def Obligations.ResetSetsEverything : Prop :=
  ∀ s : State, ∃ t : State, exec .reset s = .next t ∧
    t.edgeCnt = 0 ∧ t.syncRun = 0 ∧ t.tickPos = 0 ∧ t.voteA = 0 ∧ t.voteB = 0 ∧ t.dstate = 63 ∧ t.parity = false ∧
    t.minuteFault = false ∧ t.validTimeInfo = false ∧ t.leapExt = false ∧ t.secCount = 0 ∧ t.writeIndex = 0 ∧
    t.readIndex = 1 ∧ t.fresh = false ∧ t.needsFallback = false ∧ t.everPublished = false ∧ t.lastError = 0 ∧
    t.errorDecoderState = 0 ∧ t.errorPosition = 0 ∧ t.errCount = 0 ∧
    t.cfg = s.cfg ∧ t.commands = s.commands ∧ t.responses = s.responses

/-- R331: the state at power-on is the state RESET leaves, slots included. What State.reset holds in the model's own fields
(parameters, draws, waiting words, responses) is the model's choice (log entries 1 to 4). -/
def Obligations.PowerOnIsReset : Prop :=
  ∀ s : State, s.cfg = State.reset.cfg → s.commands = [] → s.responses = [] → s.resetDraws = 0 →
    exec .reset s = .next State.reset
end

