-- ==== Sys2Proof/Laws/State.lean ====
section
/-! SUPPORT. What each named update of the state does to each field: one lemma per field per update, so that no later proof
unfolds a record update. -/

namespace Sys2Proof.Machine

/-! ## presentCommand -/

@[simp] theorem presentCommand_edgeCnt (w : Byte) (s : State) : (presentCommand w s).edgeCnt = s.edgeCnt := rfl
@[simp] theorem presentCommand_syncRun (w : Byte) (s : State) : (presentCommand w s).syncRun = s.syncRun := rfl
@[simp] theorem presentCommand_tickPos (w : Byte) (s : State) : (presentCommand w s).tickPos = s.tickPos := rfl
@[simp] theorem presentCommand_voteA (w : Byte) (s : State) : (presentCommand w s).voteA = s.voteA := rfl
@[simp] theorem presentCommand_voteB (w : Byte) (s : State) : (presentCommand w s).voteB = s.voteB := rfl
@[simp] theorem presentCommand_dstate (w : Byte) (s : State) : (presentCommand w s).dstate = s.dstate := rfl
@[simp] theorem presentCommand_parity (w : Byte) (s : State) : (presentCommand w s).parity = s.parity := rfl
@[simp] theorem presentCommand_minuteFault (w : Byte) (s : State) : (presentCommand w s).minuteFault = s.minuteFault := rfl
@[simp] theorem presentCommand_validTimeInfo (w : Byte) (s : State) : (presentCommand w s).validTimeInfo = s.validTimeInfo := rfl
@[simp] theorem presentCommand_leapExt (w : Byte) (s : State) : (presentCommand w s).leapExt = s.leapExt := rfl
@[simp] theorem presentCommand_secCount (w : Byte) (s : State) : (presentCommand w s).secCount = s.secCount := rfl
@[simp] theorem presentCommand_slot0 (w : Byte) (s : State) : (presentCommand w s).slot0 = s.slot0 := rfl
@[simp] theorem presentCommand_slot1 (w : Byte) (s : State) : (presentCommand w s).slot1 = s.slot1 := rfl
@[simp] theorem presentCommand_writeIndex (w : Byte) (s : State) : (presentCommand w s).writeIndex = s.writeIndex := rfl
@[simp] theorem presentCommand_readIndex (w : Byte) (s : State) : (presentCommand w s).readIndex = s.readIndex := rfl
@[simp] theorem presentCommand_fresh (w : Byte) (s : State) : (presentCommand w s).fresh = s.fresh := rfl
@[simp] theorem presentCommand_needsFallback (w : Byte) (s : State) : (presentCommand w s).needsFallback = s.needsFallback := rfl
@[simp] theorem presentCommand_everPublished (w : Byte) (s : State) : (presentCommand w s).everPublished = s.everPublished := rfl
@[simp] theorem presentCommand_lastError (w : Byte) (s : State) : (presentCommand w s).lastError = s.lastError := rfl
@[simp] theorem presentCommand_errorDecoderState (w : Byte) (s : State) : (presentCommand w s).errorDecoderState = s.errorDecoderState := rfl
@[simp] theorem presentCommand_errorPosition (w : Byte) (s : State) : (presentCommand w s).errorPosition = s.errorPosition := rfl
@[simp] theorem presentCommand_errCount (w : Byte) (s : State) : (presentCommand w s).errCount = s.errCount := rfl
@[simp] theorem presentCommand_cfg (w : Byte) (s : State) : (presentCommand w s).cfg = s.cfg := rfl
@[simp] theorem presentCommand_commands (w : Byte) (s : State) : (presentCommand w s).commands = w :: s.commands := rfl
@[simp] theorem presentCommand_responses (w : Byte) (s : State) : (presentCommand w s).responses = s.responses := rfl
@[simp] theorem presentCommand_resetDraws (w : Byte) (s : State) : (presentCommand w s).resetDraws = s.resetDraws := rfl

/-! ## respond -/

@[simp] theorem respond_edgeCnt (r : Response) (s : State) : (respond r s).edgeCnt = s.edgeCnt := rfl
@[simp] theorem respond_syncRun (r : Response) (s : State) : (respond r s).syncRun = s.syncRun := rfl
@[simp] theorem respond_tickPos (r : Response) (s : State) : (respond r s).tickPos = s.tickPos := rfl
@[simp] theorem respond_voteA (r : Response) (s : State) : (respond r s).voteA = s.voteA := rfl
@[simp] theorem respond_voteB (r : Response) (s : State) : (respond r s).voteB = s.voteB := rfl
@[simp] theorem respond_dstate (r : Response) (s : State) : (respond r s).dstate = s.dstate := rfl
@[simp] theorem respond_parity (r : Response) (s : State) : (respond r s).parity = s.parity := rfl
@[simp] theorem respond_minuteFault (r : Response) (s : State) : (respond r s).minuteFault = s.minuteFault := rfl
@[simp] theorem respond_validTimeInfo (r : Response) (s : State) : (respond r s).validTimeInfo = s.validTimeInfo := rfl
@[simp] theorem respond_leapExt (r : Response) (s : State) : (respond r s).leapExt = s.leapExt := rfl
@[simp] theorem respond_secCount (r : Response) (s : State) : (respond r s).secCount = s.secCount := rfl
@[simp] theorem respond_slot0 (r : Response) (s : State) : (respond r s).slot0 = s.slot0 := rfl
@[simp] theorem respond_slot1 (r : Response) (s : State) : (respond r s).slot1 = s.slot1 := rfl
@[simp] theorem respond_writeIndex (r : Response) (s : State) : (respond r s).writeIndex = s.writeIndex := rfl
@[simp] theorem respond_readIndex (r : Response) (s : State) : (respond r s).readIndex = s.readIndex := rfl
@[simp] theorem respond_fresh (r : Response) (s : State) : (respond r s).fresh = s.fresh := rfl
@[simp] theorem respond_needsFallback (r : Response) (s : State) : (respond r s).needsFallback = s.needsFallback := rfl
@[simp] theorem respond_everPublished (r : Response) (s : State) : (respond r s).everPublished = s.everPublished := rfl
@[simp] theorem respond_lastError (r : Response) (s : State) : (respond r s).lastError = s.lastError := rfl
@[simp] theorem respond_errorDecoderState (r : Response) (s : State) : (respond r s).errorDecoderState = s.errorDecoderState := rfl
@[simp] theorem respond_errorPosition (r : Response) (s : State) : (respond r s).errorPosition = s.errorPosition := rfl
@[simp] theorem respond_errCount (r : Response) (s : State) : (respond r s).errCount = s.errCount := rfl
@[simp] theorem respond_cfg (r : Response) (s : State) : (respond r s).cfg = s.cfg := rfl
@[simp] theorem respond_commands (r : Response) (s : State) : (respond r s).commands = s.commands := rfl
@[simp] theorem respond_responses (r : Response) (s : State) : (respond r s).responses = s.responses ++ [r] := rfl
@[simp] theorem respond_resetDraws (r : Response) (s : State) : (respond r s).resetDraws = s.resetDraws := rfl

/-! ## advance -/

@[simp] theorem advance_edgeCnt (s : State) : (advance s).edgeCnt = s.edgeCnt := rfl
@[simp] theorem advance_syncRun (s : State) : (advance s).syncRun = s.syncRun := rfl
@[simp] theorem advance_tickPos (s : State) : (advance s).tickPos = s.tickPos := rfl
@[simp] theorem advance_voteA (s : State) : (advance s).voteA = s.voteA := rfl
@[simp] theorem advance_voteB (s : State) : (advance s).voteB = s.voteB := rfl
@[simp] theorem advance_dstate (s : State) : (advance s).dstate = s.dstate + 1 := rfl
@[simp] theorem advance_parity (s : State) : (advance s).parity = s.parity := rfl
@[simp] theorem advance_minuteFault (s : State) : (advance s).minuteFault = s.minuteFault := rfl
@[simp] theorem advance_validTimeInfo (s : State) : (advance s).validTimeInfo = s.validTimeInfo := rfl
@[simp] theorem advance_leapExt (s : State) : (advance s).leapExt = s.leapExt := rfl
@[simp] theorem advance_secCount (s : State) : (advance s).secCount = s.secCount + 1 := rfl
@[simp] theorem advance_slot0 (s : State) : (advance s).slot0 = s.slot0 := rfl
@[simp] theorem advance_slot1 (s : State) : (advance s).slot1 = s.slot1 := rfl
@[simp] theorem advance_writeIndex (s : State) : (advance s).writeIndex = s.writeIndex := rfl
@[simp] theorem advance_readIndex (s : State) : (advance s).readIndex = s.readIndex := rfl
@[simp] theorem advance_fresh (s : State) : (advance s).fresh = s.fresh := rfl
@[simp] theorem advance_needsFallback (s : State) : (advance s).needsFallback = s.needsFallback := rfl
@[simp] theorem advance_everPublished (s : State) : (advance s).everPublished = s.everPublished := rfl
@[simp] theorem advance_lastError (s : State) : (advance s).lastError = s.lastError := rfl
@[simp] theorem advance_errorDecoderState (s : State) : (advance s).errorDecoderState = s.errorDecoderState := rfl
@[simp] theorem advance_errorPosition (s : State) : (advance s).errorPosition = s.errorPosition := rfl
@[simp] theorem advance_errCount (s : State) : (advance s).errCount = s.errCount := rfl
@[simp] theorem advance_cfg (s : State) : (advance s).cfg = s.cfg := rfl
@[simp] theorem advance_commands (s : State) : (advance s).commands = s.commands := rfl
@[simp] theorem advance_responses (s : State) : (advance s).responses = s.responses := rfl
@[simp] theorem advance_resetDraws (s : State) : (advance s).resetDraws = s.resetDraws := rfl

/-! ## lock -/

@[simp] theorem lock_edgeCnt (s : State) : (lock s).edgeCnt = s.edgeCnt := rfl
@[simp] theorem lock_syncRun (s : State) : (lock s).syncRun = s.syncRun := rfl
@[simp] theorem lock_tickPos (s : State) : (lock s).tickPos = s.cfg.anchorOffset := rfl
@[simp] theorem lock_voteA (s : State) : (lock s).voteA = 0 := rfl
@[simp] theorem lock_voteB (s : State) : (lock s).voteB = 0 := rfl
@[simp] theorem lock_dstate (s : State) : (lock s).dstate = 0 := rfl
@[simp] theorem lock_parity (s : State) : (lock s).parity = s.parity := rfl
@[simp] theorem lock_minuteFault (s : State) : (lock s).minuteFault = false := rfl
@[simp] theorem lock_validTimeInfo (s : State) : (lock s).validTimeInfo = false := rfl
@[simp] theorem lock_leapExt (s : State) : (lock s).leapExt = false := rfl
@[simp] theorem lock_secCount (s : State) : (lock s).secCount = 0 := rfl
@[simp] theorem lock_slot0 (s : State) : (lock s).slot0 = s.slot0 := rfl
@[simp] theorem lock_slot1 (s : State) : (lock s).slot1 = s.slot1 := rfl
@[simp] theorem lock_writeIndex (s : State) : (lock s).writeIndex = s.writeIndex := rfl
@[simp] theorem lock_readIndex (s : State) : (lock s).readIndex = s.readIndex := rfl
@[simp] theorem lock_fresh (s : State) : (lock s).fresh = s.fresh := rfl
@[simp] theorem lock_needsFallback (s : State) : (lock s).needsFallback = s.needsFallback := rfl
@[simp] theorem lock_everPublished (s : State) : (lock s).everPublished = s.everPublished := rfl
@[simp] theorem lock_lastError (s : State) : (lock s).lastError = s.lastError := rfl
@[simp] theorem lock_errorDecoderState (s : State) : (lock s).errorDecoderState = s.errorDecoderState := rfl
@[simp] theorem lock_errorPosition (s : State) : (lock s).errorPosition = s.errorPosition := rfl
@[simp] theorem lock_errCount (s : State) : (lock s).errCount = s.errCount := rfl
@[simp] theorem lock_cfg (s : State) : (lock s).cfg = s.cfg := rfl
@[simp] theorem lock_commands (s : State) : (lock s).commands = s.commands := rfl
@[simp] theorem lock_responses (s : State) : (lock s).responses = s.responses := rfl
@[simp] theorem lock_resetDraws (s : State) : (lock s).resetDraws = s.resetDraws := rfl

/-! ## startMinute -/

@[simp] theorem startMinute_edgeCnt (s : State) : (startMinute s).edgeCnt = s.edgeCnt := rfl
@[simp] theorem startMinute_syncRun (s : State) : (startMinute s).syncRun = s.syncRun := rfl
@[simp] theorem startMinute_tickPos (s : State) : (startMinute s).tickPos = s.tickPos := rfl
@[simp] theorem startMinute_voteA (s : State) : (startMinute s).voteA = s.voteA := rfl
@[simp] theorem startMinute_voteB (s : State) : (startMinute s).voteB = s.voteB := rfl
@[simp] theorem startMinute_dstate (s : State) : (startMinute s).dstate = 0 := rfl
@[simp] theorem startMinute_parity (s : State) : (startMinute s).parity = s.parity := rfl
@[simp] theorem startMinute_minuteFault (s : State) : (startMinute s).minuteFault = false := rfl
@[simp] theorem startMinute_validTimeInfo (s : State) : (startMinute s).validTimeInfo = false := rfl
@[simp] theorem startMinute_leapExt (s : State) : (startMinute s).leapExt = false := rfl
@[simp] theorem startMinute_secCount (s : State) : (startMinute s).secCount = 0 := rfl
@[simp] theorem startMinute_slot0 (s : State) : (startMinute s).slot0 = s.slot0 := rfl
@[simp] theorem startMinute_slot1 (s : State) : (startMinute s).slot1 = s.slot1 := rfl
@[simp] theorem startMinute_writeIndex (s : State) : (startMinute s).writeIndex = s.writeIndex := rfl
@[simp] theorem startMinute_readIndex (s : State) : (startMinute s).readIndex = s.readIndex := rfl
@[simp] theorem startMinute_fresh (s : State) : (startMinute s).fresh = s.fresh := rfl
@[simp] theorem startMinute_needsFallback (s : State) : (startMinute s).needsFallback = s.needsFallback := rfl
@[simp] theorem startMinute_everPublished (s : State) : (startMinute s).everPublished = s.everPublished := rfl
@[simp] theorem startMinute_lastError (s : State) : (startMinute s).lastError = s.lastError := rfl
@[simp] theorem startMinute_errorDecoderState (s : State) : (startMinute s).errorDecoderState = s.errorDecoderState := rfl
@[simp] theorem startMinute_errorPosition (s : State) : (startMinute s).errorPosition = s.errorPosition := rfl
@[simp] theorem startMinute_errCount (s : State) : (startMinute s).errCount = s.errCount := rfl
@[simp] theorem startMinute_cfg (s : State) : (startMinute s).cfg = s.cfg := rfl
@[simp] theorem startMinute_commands (s : State) : (startMinute s).commands = s.commands := rfl
@[simp] theorem startMinute_responses (s : State) : (startMinute s).responses = s.responses := rfl
@[simp] theorem startMinute_resetDraws (s : State) : (startMinute s).resetDraws = s.resetDraws := rfl

/-! ## clearLatch -/

@[simp] theorem clearLatch_edgeCnt (s : State) : (clearLatch s).edgeCnt = s.edgeCnt := rfl
@[simp] theorem clearLatch_syncRun (s : State) : (clearLatch s).syncRun = s.syncRun := rfl
@[simp] theorem clearLatch_tickPos (s : State) : (clearLatch s).tickPos = s.tickPos := rfl
@[simp] theorem clearLatch_voteA (s : State) : (clearLatch s).voteA = s.voteA := rfl
@[simp] theorem clearLatch_voteB (s : State) : (clearLatch s).voteB = s.voteB := rfl
@[simp] theorem clearLatch_dstate (s : State) : (clearLatch s).dstate = s.dstate := rfl
@[simp] theorem clearLatch_parity (s : State) : (clearLatch s).parity = s.parity := rfl
@[simp] theorem clearLatch_minuteFault (s : State) : (clearLatch s).minuteFault = s.minuteFault := rfl
@[simp] theorem clearLatch_validTimeInfo (s : State) : (clearLatch s).validTimeInfo = s.validTimeInfo := rfl
@[simp] theorem clearLatch_leapExt (s : State) : (clearLatch s).leapExt = s.leapExt := rfl
@[simp] theorem clearLatch_secCount (s : State) : (clearLatch s).secCount = s.secCount := rfl
@[simp] theorem clearLatch_slot0 (s : State) : (clearLatch s).slot0 = s.slot0 := rfl
@[simp] theorem clearLatch_slot1 (s : State) : (clearLatch s).slot1 = s.slot1 := rfl
@[simp] theorem clearLatch_writeIndex (s : State) : (clearLatch s).writeIndex = s.writeIndex := rfl
@[simp] theorem clearLatch_readIndex (s : State) : (clearLatch s).readIndex = s.readIndex := rfl
@[simp] theorem clearLatch_fresh (s : State) : (clearLatch s).fresh = s.fresh := rfl
@[simp] theorem clearLatch_needsFallback (s : State) : (clearLatch s).needsFallback = s.needsFallback := rfl
@[simp] theorem clearLatch_everPublished (s : State) : (clearLatch s).everPublished = s.everPublished := rfl
@[simp] theorem clearLatch_lastError (s : State) : (clearLatch s).lastError = 0 := rfl
@[simp] theorem clearLatch_errorDecoderState (s : State) : (clearLatch s).errorDecoderState = 0 := rfl
@[simp] theorem clearLatch_errorPosition (s : State) : (clearLatch s).errorPosition = 0 := rfl
@[simp] theorem clearLatch_errCount (s : State) : (clearLatch s).errCount = s.errCount := rfl
@[simp] theorem clearLatch_cfg (s : State) : (clearLatch s).cfg = s.cfg := rfl
@[simp] theorem clearLatch_commands (s : State) : (clearLatch s).commands = s.commands := rfl
@[simp] theorem clearLatch_responses (s : State) : (clearLatch s).responses = s.responses := rfl
@[simp] theorem clearLatch_resetDraws (s : State) : (clearLatch s).resetDraws = s.resetDraws := rfl

/-! ## clearParity -/

@[simp] theorem clearParity_edgeCnt (s : State) : (clearParity s).edgeCnt = s.edgeCnt := rfl
@[simp] theorem clearParity_syncRun (s : State) : (clearParity s).syncRun = s.syncRun := rfl
@[simp] theorem clearParity_tickPos (s : State) : (clearParity s).tickPos = s.tickPos := rfl
@[simp] theorem clearParity_voteA (s : State) : (clearParity s).voteA = s.voteA := rfl
@[simp] theorem clearParity_voteB (s : State) : (clearParity s).voteB = s.voteB := rfl
@[simp] theorem clearParity_dstate (s : State) : (clearParity s).dstate = s.dstate := rfl
@[simp] theorem clearParity_parity (s : State) : (clearParity s).parity = false := rfl
@[simp] theorem clearParity_minuteFault (s : State) : (clearParity s).minuteFault = s.minuteFault := rfl
@[simp] theorem clearParity_validTimeInfo (s : State) : (clearParity s).validTimeInfo = s.validTimeInfo := rfl
@[simp] theorem clearParity_leapExt (s : State) : (clearParity s).leapExt = s.leapExt := rfl
@[simp] theorem clearParity_secCount (s : State) : (clearParity s).secCount = s.secCount := rfl
@[simp] theorem clearParity_slot0 (s : State) : (clearParity s).slot0 = s.slot0 := rfl
@[simp] theorem clearParity_slot1 (s : State) : (clearParity s).slot1 = s.slot1 := rfl
@[simp] theorem clearParity_writeIndex (s : State) : (clearParity s).writeIndex = s.writeIndex := rfl
@[simp] theorem clearParity_readIndex (s : State) : (clearParity s).readIndex = s.readIndex := rfl
@[simp] theorem clearParity_fresh (s : State) : (clearParity s).fresh = s.fresh := rfl
@[simp] theorem clearParity_needsFallback (s : State) : (clearParity s).needsFallback = s.needsFallback := rfl
@[simp] theorem clearParity_everPublished (s : State) : (clearParity s).everPublished = s.everPublished := rfl
@[simp] theorem clearParity_lastError (s : State) : (clearParity s).lastError = s.lastError := rfl
@[simp] theorem clearParity_errorDecoderState (s : State) : (clearParity s).errorDecoderState = s.errorDecoderState := rfl
@[simp] theorem clearParity_errorPosition (s : State) : (clearParity s).errorPosition = s.errorPosition := rfl
@[simp] theorem clearParity_errCount (s : State) : (clearParity s).errCount = s.errCount := rfl
@[simp] theorem clearParity_cfg (s : State) : (clearParity s).cfg = s.cfg := rfl
@[simp] theorem clearParity_commands (s : State) : (clearParity s).commands = s.commands := rfl
@[simp] theorem clearParity_responses (s : State) : (clearParity s).responses = s.responses := rfl
@[simp] theorem clearParity_resetDraws (s : State) : (clearParity s).resetDraws = s.resetDraws := rfl

/-! ## invalidateMinute -/

@[simp] theorem invalidateMinute_edgeCnt (s : State) : (invalidateMinute s).edgeCnt = s.edgeCnt := rfl
@[simp] theorem invalidateMinute_syncRun (s : State) : (invalidateMinute s).syncRun = s.syncRun := rfl
@[simp] theorem invalidateMinute_tickPos (s : State) : (invalidateMinute s).tickPos = s.tickPos := rfl
@[simp] theorem invalidateMinute_voteA (s : State) : (invalidateMinute s).voteA = s.voteA := rfl
@[simp] theorem invalidateMinute_voteB (s : State) : (invalidateMinute s).voteB = s.voteB := rfl
@[simp] theorem invalidateMinute_dstate (s : State) : (invalidateMinute s).dstate = s.dstate := rfl
@[simp] theorem invalidateMinute_parity (s : State) : (invalidateMinute s).parity = s.parity := rfl
@[simp] theorem invalidateMinute_minuteFault (s : State) : (invalidateMinute s).minuteFault = true := rfl
@[simp] theorem invalidateMinute_validTimeInfo (s : State) : (invalidateMinute s).validTimeInfo = false := rfl
@[simp] theorem invalidateMinute_leapExt (s : State) : (invalidateMinute s).leapExt = s.leapExt := rfl
@[simp] theorem invalidateMinute_secCount (s : State) : (invalidateMinute s).secCount = s.secCount := rfl
@[simp] theorem invalidateMinute_slot0 (s : State) : (invalidateMinute s).slot0 = s.slot0 := rfl
@[simp] theorem invalidateMinute_slot1 (s : State) : (invalidateMinute s).slot1 = s.slot1 := rfl
@[simp] theorem invalidateMinute_writeIndex (s : State) : (invalidateMinute s).writeIndex = s.writeIndex := rfl
@[simp] theorem invalidateMinute_readIndex (s : State) : (invalidateMinute s).readIndex = s.readIndex := rfl
@[simp] theorem invalidateMinute_fresh (s : State) : (invalidateMinute s).fresh = s.fresh := rfl
@[simp] theorem invalidateMinute_needsFallback (s : State) : (invalidateMinute s).needsFallback = s.needsFallback := rfl
@[simp] theorem invalidateMinute_everPublished (s : State) : (invalidateMinute s).everPublished = s.everPublished := rfl
@[simp] theorem invalidateMinute_lastError (s : State) : (invalidateMinute s).lastError = s.lastError := rfl
@[simp] theorem invalidateMinute_errorDecoderState (s : State) : (invalidateMinute s).errorDecoderState = s.errorDecoderState := rfl
@[simp] theorem invalidateMinute_errorPosition (s : State) : (invalidateMinute s).errorPosition = s.errorPosition := rfl
@[simp] theorem invalidateMinute_errCount (s : State) : (invalidateMinute s).errCount = s.errCount := rfl
@[simp] theorem invalidateMinute_cfg (s : State) : (invalidateMinute s).cfg = s.cfg := rfl
@[simp] theorem invalidateMinute_commands (s : State) : (invalidateMinute s).commands = s.commands := rfl
@[simp] theorem invalidateMinute_responses (s : State) : (invalidateMinute s).responses = s.responses := rfl
@[simp] theorem invalidateMinute_resetDraws (s : State) : (invalidateMinute s).resetDraws = s.resetDraws := rfl

/-! ## countFault -/

@[simp] theorem countFault_edgeCnt (s : State) : (countFault s).edgeCnt = s.edgeCnt := rfl
@[simp] theorem countFault_syncRun (s : State) : (countFault s).syncRun = s.syncRun := rfl
@[simp] theorem countFault_tickPos (s : State) : (countFault s).tickPos = s.tickPos := rfl
@[simp] theorem countFault_voteA (s : State) : (countFault s).voteA = s.voteA := rfl
@[simp] theorem countFault_voteB (s : State) : (countFault s).voteB = s.voteB := rfl
@[simp] theorem countFault_dstate (s : State) : (countFault s).dstate = s.dstate := rfl
@[simp] theorem countFault_parity (s : State) : (countFault s).parity = s.parity := rfl
@[simp] theorem countFault_minuteFault (s : State) : (countFault s).minuteFault = s.minuteFault := rfl
@[simp] theorem countFault_validTimeInfo (s : State) : (countFault s).validTimeInfo = s.validTimeInfo := rfl
@[simp] theorem countFault_leapExt (s : State) : (countFault s).leapExt = s.leapExt := rfl
@[simp] theorem countFault_secCount (s : State) : (countFault s).secCount = s.secCount := rfl
@[simp] theorem countFault_slot0 (s : State) : (countFault s).slot0 = s.slot0 := rfl
@[simp] theorem countFault_slot1 (s : State) : (countFault s).slot1 = s.slot1 := rfl
@[simp] theorem countFault_writeIndex (s : State) : (countFault s).writeIndex = s.writeIndex := rfl
@[simp] theorem countFault_readIndex (s : State) : (countFault s).readIndex = s.readIndex := rfl
@[simp] theorem countFault_fresh (s : State) : (countFault s).fresh = s.fresh := rfl
@[simp] theorem countFault_needsFallback (s : State) : (countFault s).needsFallback = s.needsFallback := rfl
@[simp] theorem countFault_everPublished (s : State) : (countFault s).everPublished = s.everPublished := rfl
@[simp] theorem countFault_lastError (s : State) : (countFault s).lastError = s.lastError := rfl
@[simp] theorem countFault_errorDecoderState (s : State) : (countFault s).errorDecoderState = s.errorDecoderState := rfl
@[simp] theorem countFault_errorPosition (s : State) : (countFault s).errorPosition = s.errorPosition := rfl
@[simp] theorem countFault_errCount (s : State) : (countFault s).errCount = if s.errCount < s.cfg.errCntMax then s.errCount + 1 else s.errCount := rfl
@[simp] theorem countFault_cfg (s : State) : (countFault s).cfg = s.cfg := rfl
@[simp] theorem countFault_commands (s : State) : (countFault s).commands = s.commands := rfl
@[simp] theorem countFault_responses (s : State) : (countFault s).responses = s.responses := rfl
@[simp] theorem countFault_resetDraws (s : State) : (countFault s).resetDraws = s.resetDraws := rfl

/-! ## latchFault -/

@[simp] theorem latchFault_edgeCnt (k : ErrorKind) (s : State) : (latchFault k s).edgeCnt = s.edgeCnt := rfl
@[simp] theorem latchFault_syncRun (k : ErrorKind) (s : State) : (latchFault k s).syncRun = s.syncRun := rfl
@[simp] theorem latchFault_tickPos (k : ErrorKind) (s : State) : (latchFault k s).tickPos = s.tickPos := rfl
@[simp] theorem latchFault_voteA (k : ErrorKind) (s : State) : (latchFault k s).voteA = s.voteA := rfl
@[simp] theorem latchFault_voteB (k : ErrorKind) (s : State) : (latchFault k s).voteB = s.voteB := rfl
@[simp] theorem latchFault_dstate (k : ErrorKind) (s : State) : (latchFault k s).dstate = s.dstate := rfl
@[simp] theorem latchFault_parity (k : ErrorKind) (s : State) : (latchFault k s).parity = s.parity := rfl
@[simp] theorem latchFault_minuteFault (k : ErrorKind) (s : State) : (latchFault k s).minuteFault = s.minuteFault := rfl
@[simp] theorem latchFault_validTimeInfo (k : ErrorKind) (s : State) : (latchFault k s).validTimeInfo = s.validTimeInfo := rfl
@[simp] theorem latchFault_leapExt (k : ErrorKind) (s : State) : (latchFault k s).leapExt = s.leapExt := rfl
@[simp] theorem latchFault_secCount (k : ErrorKind) (s : State) : (latchFault k s).secCount = s.secCount := rfl
@[simp] theorem latchFault_slot0 (k : ErrorKind) (s : State) : (latchFault k s).slot0 = s.slot0 := rfl
@[simp] theorem latchFault_slot1 (k : ErrorKind) (s : State) : (latchFault k s).slot1 = s.slot1 := rfl
@[simp] theorem latchFault_writeIndex (k : ErrorKind) (s : State) : (latchFault k s).writeIndex = s.writeIndex := rfl
@[simp] theorem latchFault_readIndex (k : ErrorKind) (s : State) : (latchFault k s).readIndex = s.readIndex := rfl
@[simp] theorem latchFault_fresh (k : ErrorKind) (s : State) : (latchFault k s).fresh = s.fresh := rfl
@[simp] theorem latchFault_needsFallback (k : ErrorKind) (s : State) : (latchFault k s).needsFallback = s.needsFallback := rfl
@[simp] theorem latchFault_everPublished (k : ErrorKind) (s : State) : (latchFault k s).everPublished = s.everPublished := rfl
@[simp] theorem latchFault_lastError (k : ErrorKind) (s : State) : (latchFault k s).lastError = if s.lastError = 0 then errorCode k else s.lastError := rfl
@[simp] theorem latchFault_errorDecoderState (k : ErrorKind) (s : State) : (latchFault k s).errorDecoderState = if s.lastError = 0 then s.dstate else s.errorDecoderState := rfl
@[simp] theorem latchFault_errorPosition (k : ErrorKind) (s : State) : (latchFault k s).errorPosition = if s.lastError = 0 then s.secCount else s.errorPosition := rfl
@[simp] theorem latchFault_errCount (k : ErrorKind) (s : State) : (latchFault k s).errCount = s.errCount := rfl
@[simp] theorem latchFault_cfg (k : ErrorKind) (s : State) : (latchFault k s).cfg = s.cfg := rfl
@[simp] theorem latchFault_commands (k : ErrorKind) (s : State) : (latchFault k s).commands = s.commands := rfl
@[simp] theorem latchFault_responses (k : ErrorKind) (s : State) : (latchFault k s).responses = s.responses := rfl
@[simp] theorem latchFault_resetDraws (k : ErrorKind) (s : State) : (latchFault k s).resetDraws = s.resetDraws := rfl

/-! ## forceNotSynced -/

@[simp] theorem forceNotSynced_edgeCnt (s : State) : (forceNotSynced s).edgeCnt = s.edgeCnt := rfl
@[simp] theorem forceNotSynced_syncRun (s : State) : (forceNotSynced s).syncRun = 0 := rfl
@[simp] theorem forceNotSynced_tickPos (s : State) : (forceNotSynced s).tickPos = s.tickPos := rfl
@[simp] theorem forceNotSynced_voteA (s : State) : (forceNotSynced s).voteA = s.voteA := rfl
@[simp] theorem forceNotSynced_voteB (s : State) : (forceNotSynced s).voteB = s.voteB := rfl
@[simp] theorem forceNotSynced_dstate (s : State) : (forceNotSynced s).dstate = 63 := rfl
@[simp] theorem forceNotSynced_parity (s : State) : (forceNotSynced s).parity = s.parity := rfl
@[simp] theorem forceNotSynced_minuteFault (s : State) : (forceNotSynced s).minuteFault = s.minuteFault := rfl
@[simp] theorem forceNotSynced_validTimeInfo (s : State) : (forceNotSynced s).validTimeInfo = s.validTimeInfo := rfl
@[simp] theorem forceNotSynced_leapExt (s : State) : (forceNotSynced s).leapExt = s.leapExt := rfl
@[simp] theorem forceNotSynced_secCount (s : State) : (forceNotSynced s).secCount = s.secCount := rfl
@[simp] theorem forceNotSynced_slot0 (s : State) : (forceNotSynced s).slot0 = s.slot0 := rfl
@[simp] theorem forceNotSynced_slot1 (s : State) : (forceNotSynced s).slot1 = s.slot1 := rfl
@[simp] theorem forceNotSynced_writeIndex (s : State) : (forceNotSynced s).writeIndex = s.writeIndex := rfl
@[simp] theorem forceNotSynced_readIndex (s : State) : (forceNotSynced s).readIndex = s.readIndex := rfl
@[simp] theorem forceNotSynced_fresh (s : State) : (forceNotSynced s).fresh = s.fresh := rfl
@[simp] theorem forceNotSynced_needsFallback (s : State) : (forceNotSynced s).needsFallback = s.needsFallback := rfl
@[simp] theorem forceNotSynced_everPublished (s : State) : (forceNotSynced s).everPublished = s.everPublished := rfl
@[simp] theorem forceNotSynced_lastError (s : State) : (forceNotSynced s).lastError = s.lastError := rfl
@[simp] theorem forceNotSynced_errorDecoderState (s : State) : (forceNotSynced s).errorDecoderState = s.errorDecoderState := rfl
@[simp] theorem forceNotSynced_errorPosition (s : State) : (forceNotSynced s).errorPosition = s.errorPosition := rfl
@[simp] theorem forceNotSynced_errCount (s : State) : (forceNotSynced s).errCount = s.errCount := rfl
@[simp] theorem forceNotSynced_cfg (s : State) : (forceNotSynced s).cfg = s.cfg := rfl
@[simp] theorem forceNotSynced_commands (s : State) : (forceNotSynced s).commands = s.commands := rfl
@[simp] theorem forceNotSynced_responses (s : State) : (forceNotSynced s).responses = s.responses := rfl
@[simp] theorem forceNotSynced_resetDraws (s : State) : (forceNotSynced s).resetDraws = s.resetDraws := rfl

/-! ## publish -/

@[simp] theorem publish_edgeCnt (s : State) : (publish s).edgeCnt = s.edgeCnt := rfl
@[simp] theorem publish_syncRun (s : State) : (publish s).syncRun = s.syncRun := rfl
@[simp] theorem publish_tickPos (s : State) : (publish s).tickPos = s.tickPos := rfl
@[simp] theorem publish_voteA (s : State) : (publish s).voteA = s.voteA := rfl
@[simp] theorem publish_voteB (s : State) : (publish s).voteB = s.voteB := rfl
@[simp] theorem publish_dstate (s : State) : (publish s).dstate = s.dstate := rfl
@[simp] theorem publish_parity (s : State) : (publish s).parity = s.parity := rfl
@[simp] theorem publish_minuteFault (s : State) : (publish s).minuteFault = s.minuteFault := rfl
@[simp] theorem publish_validTimeInfo (s : State) : (publish s).validTimeInfo = s.validTimeInfo := rfl
@[simp] theorem publish_leapExt (s : State) : (publish s).leapExt = s.leapExt := rfl
@[simp] theorem publish_secCount (s : State) : (publish s).secCount = s.secCount := rfl
@[simp] theorem publish_slot0 (s : State) : (publish s).slot0 = s.slot0 := rfl
@[simp] theorem publish_slot1 (s : State) : (publish s).slot1 = s.slot1 := rfl
@[simp] theorem publish_writeIndex (s : State) : (publish s).writeIndex = s.readIndex := rfl
@[simp] theorem publish_readIndex (s : State) : (publish s).readIndex = s.writeIndex := rfl
@[simp] theorem publish_fresh (s : State) : (publish s).fresh = true := rfl
@[simp] theorem publish_needsFallback (s : State) : (publish s).needsFallback = false := rfl
@[simp] theorem publish_everPublished (s : State) : (publish s).everPublished = true := rfl
@[simp] theorem publish_lastError (s : State) : (publish s).lastError = s.lastError := rfl
@[simp] theorem publish_errorDecoderState (s : State) : (publish s).errorDecoderState = s.errorDecoderState := rfl
@[simp] theorem publish_errorPosition (s : State) : (publish s).errorPosition = s.errorPosition := rfl
@[simp] theorem publish_errCount (s : State) : (publish s).errCount = s.errCount := rfl
@[simp] theorem publish_cfg (s : State) : (publish s).cfg = s.cfg := rfl
@[simp] theorem publish_commands (s : State) : (publish s).commands = s.commands := rfl
@[simp] theorem publish_responses (s : State) : (publish s).responses = s.responses := rfl
@[simp] theorem publish_resetDraws (s : State) : (publish s).resetDraws = s.resetDraws := rfl

/-! ## startSecond -/

@[simp] theorem startSecond_edgeCnt (s : State) : (startSecond s).edgeCnt = s.edgeCnt := rfl
@[simp] theorem startSecond_syncRun (s : State) : (startSecond s).syncRun = s.syncRun := rfl
@[simp] theorem startSecond_tickPos (s : State) : (startSecond s).tickPos = 0 := rfl
@[simp] theorem startSecond_voteA (s : State) : (startSecond s).voteA = 0 := rfl
@[simp] theorem startSecond_voteB (s : State) : (startSecond s).voteB = 0 := rfl
@[simp] theorem startSecond_dstate (s : State) : (startSecond s).dstate = s.dstate := rfl
@[simp] theorem startSecond_parity (s : State) : (startSecond s).parity = s.parity := rfl
@[simp] theorem startSecond_minuteFault (s : State) : (startSecond s).minuteFault = s.minuteFault := rfl
@[simp] theorem startSecond_validTimeInfo (s : State) : (startSecond s).validTimeInfo = s.validTimeInfo := rfl
@[simp] theorem startSecond_leapExt (s : State) : (startSecond s).leapExt = s.leapExt := rfl
@[simp] theorem startSecond_secCount (s : State) : (startSecond s).secCount = s.secCount := rfl
@[simp] theorem startSecond_slot0 (s : State) : (startSecond s).slot0 = s.slot0 := rfl
@[simp] theorem startSecond_slot1 (s : State) : (startSecond s).slot1 = s.slot1 := rfl
@[simp] theorem startSecond_writeIndex (s : State) : (startSecond s).writeIndex = s.writeIndex := rfl
@[simp] theorem startSecond_readIndex (s : State) : (startSecond s).readIndex = s.readIndex := rfl
@[simp] theorem startSecond_fresh (s : State) : (startSecond s).fresh = s.fresh := rfl
@[simp] theorem startSecond_needsFallback (s : State) : (startSecond s).needsFallback = s.needsFallback := rfl
@[simp] theorem startSecond_everPublished (s : State) : (startSecond s).everPublished = s.everPublished := rfl
@[simp] theorem startSecond_lastError (s : State) : (startSecond s).lastError = s.lastError := rfl
@[simp] theorem startSecond_errorDecoderState (s : State) : (startSecond s).errorDecoderState = s.errorDecoderState := rfl
@[simp] theorem startSecond_errorPosition (s : State) : (startSecond s).errorPosition = s.errorPosition := rfl
@[simp] theorem startSecond_errCount (s : State) : (startSecond s).errCount = s.errCount := rfl
@[simp] theorem startSecond_cfg (s : State) : (startSecond s).cfg = s.cfg := rfl
@[simp] theorem startSecond_commands (s : State) : (startSecond s).commands = s.commands := rfl
@[simp] theorem startSecond_responses (s : State) : (startSecond s).responses = s.responses := rfl
@[simp] theorem startSecond_resetDraws (s : State) : (startSecond s).resetDraws = s.resetDraws := rfl

/-! ## countSample -/

@[simp] theorem countSample_edgeCnt (p : BitVec 1) (s : State) : (countSample p s).edgeCnt = s.edgeCnt := rfl
@[simp] theorem countSample_syncRun (p : BitVec 1) (s : State) : (countSample p s).syncRun = s.syncRun := rfl
@[simp] theorem countSample_tickPos (p : BitVec 1) (s : State) : (countSample p s).tickPos = s.tickPos := rfl
@[simp] theorem countSample_voteA (p : BitVec 1) (s : State) : (countSample p s).voteA = if inWindowA s.tickPos then s.voteA + pinVote p else s.voteA := rfl
@[simp] theorem countSample_voteB (p : BitVec 1) (s : State) : (countSample p s).voteB = if inWindowB s.tickPos then s.voteB + pinVote p else s.voteB := rfl
@[simp] theorem countSample_dstate (p : BitVec 1) (s : State) : (countSample p s).dstate = s.dstate := rfl
@[simp] theorem countSample_parity (p : BitVec 1) (s : State) : (countSample p s).parity = s.parity := rfl
@[simp] theorem countSample_minuteFault (p : BitVec 1) (s : State) : (countSample p s).minuteFault = s.minuteFault := rfl
@[simp] theorem countSample_validTimeInfo (p : BitVec 1) (s : State) : (countSample p s).validTimeInfo = s.validTimeInfo := rfl
@[simp] theorem countSample_leapExt (p : BitVec 1) (s : State) : (countSample p s).leapExt = s.leapExt := rfl
@[simp] theorem countSample_secCount (p : BitVec 1) (s : State) : (countSample p s).secCount = s.secCount := rfl
@[simp] theorem countSample_slot0 (p : BitVec 1) (s : State) : (countSample p s).slot0 = s.slot0 := rfl
@[simp] theorem countSample_slot1 (p : BitVec 1) (s : State) : (countSample p s).slot1 = s.slot1 := rfl
@[simp] theorem countSample_writeIndex (p : BitVec 1) (s : State) : (countSample p s).writeIndex = s.writeIndex := rfl
@[simp] theorem countSample_readIndex (p : BitVec 1) (s : State) : (countSample p s).readIndex = s.readIndex := rfl
@[simp] theorem countSample_fresh (p : BitVec 1) (s : State) : (countSample p s).fresh = s.fresh := rfl
@[simp] theorem countSample_needsFallback (p : BitVec 1) (s : State) : (countSample p s).needsFallback = s.needsFallback := rfl
@[simp] theorem countSample_everPublished (p : BitVec 1) (s : State) : (countSample p s).everPublished = s.everPublished := rfl
@[simp] theorem countSample_lastError (p : BitVec 1) (s : State) : (countSample p s).lastError = s.lastError := rfl
@[simp] theorem countSample_errorDecoderState (p : BitVec 1) (s : State) : (countSample p s).errorDecoderState = s.errorDecoderState := rfl
@[simp] theorem countSample_errorPosition (p : BitVec 1) (s : State) : (countSample p s).errorPosition = s.errorPosition := rfl
@[simp] theorem countSample_errCount (p : BitVec 1) (s : State) : (countSample p s).errCount = s.errCount := rfl
@[simp] theorem countSample_cfg (p : BitVec 1) (s : State) : (countSample p s).cfg = s.cfg := rfl
@[simp] theorem countSample_commands (p : BitVec 1) (s : State) : (countSample p s).commands = s.commands := rfl
@[simp] theorem countSample_responses (p : BitVec 1) (s : State) : (countSample p s).responses = s.responses := rfl
@[simp] theorem countSample_resetDraws (p : BitVec 1) (s : State) : (countSample p s).resetDraws = s.resetDraws := rfl

/-! ## resetBlock -/

@[simp] theorem resetBlock_edgeCnt (s : State) : (resetBlock s).edgeCnt = 0 := rfl
@[simp] theorem resetBlock_syncRun (s : State) : (resetBlock s).syncRun = 0 := rfl
@[simp] theorem resetBlock_tickPos (s : State) : (resetBlock s).tickPos = 0 := rfl
@[simp] theorem resetBlock_voteA (s : State) : (resetBlock s).voteA = 0 := rfl
@[simp] theorem resetBlock_voteB (s : State) : (resetBlock s).voteB = 0 := rfl
@[simp] theorem resetBlock_dstate (s : State) : (resetBlock s).dstate = 63 := rfl
@[simp] theorem resetBlock_parity (s : State) : (resetBlock s).parity = false := rfl
@[simp] theorem resetBlock_minuteFault (s : State) : (resetBlock s).minuteFault = false := rfl
@[simp] theorem resetBlock_validTimeInfo (s : State) : (resetBlock s).validTimeInfo = false := rfl
@[simp] theorem resetBlock_leapExt (s : State) : (resetBlock s).leapExt = false := rfl
@[simp] theorem resetBlock_secCount (s : State) : (resetBlock s).secCount = 0 := rfl
@[simp] theorem resetBlock_slot0 (s : State) : (resetBlock s).slot0 = Config.resetSlot s.resetDraws 0 := rfl
@[simp] theorem resetBlock_slot1 (s : State) : (resetBlock s).slot1 = Config.resetSlot s.resetDraws 1 := rfl
@[simp] theorem resetBlock_writeIndex (s : State) : (resetBlock s).writeIndex = 0 := rfl
@[simp] theorem resetBlock_readIndex (s : State) : (resetBlock s).readIndex = 1 := rfl
@[simp] theorem resetBlock_fresh (s : State) : (resetBlock s).fresh = false := rfl
@[simp] theorem resetBlock_needsFallback (s : State) : (resetBlock s).needsFallback = false := rfl
@[simp] theorem resetBlock_everPublished (s : State) : (resetBlock s).everPublished = false := rfl
@[simp] theorem resetBlock_lastError (s : State) : (resetBlock s).lastError = 0 := rfl
@[simp] theorem resetBlock_errorDecoderState (s : State) : (resetBlock s).errorDecoderState = 0 := rfl
@[simp] theorem resetBlock_errorPosition (s : State) : (resetBlock s).errorPosition = 0 := rfl
@[simp] theorem resetBlock_errCount (s : State) : (resetBlock s).errCount = 0 := rfl
@[simp] theorem resetBlock_cfg (s : State) : (resetBlock s).cfg = s.cfg := rfl
@[simp] theorem resetBlock_commands (s : State) : (resetBlock s).commands = s.commands := rfl
@[simp] theorem resetBlock_responses (s : State) : (resetBlock s).responses = s.responses := rfl
@[simp] theorem resetBlock_resetDraws (s : State) : (resetBlock s).resetDraws = s.resetDraws + 1 := rfl

/-! ## setSlot, updateWrite, updateRead: a slot, and no other field -/

@[simp] theorem setSlot_edgeCnt (i : BitVec 1) (r : TimeRecord) (s : State) : (setSlot i r s).edgeCnt = s.edgeCnt := by
  unfold setSlot; split <;> rfl

@[simp] theorem setSlot_syncRun (i : BitVec 1) (r : TimeRecord) (s : State) : (setSlot i r s).syncRun = s.syncRun := by
  unfold setSlot; split <;> rfl

@[simp] theorem setSlot_tickPos (i : BitVec 1) (r : TimeRecord) (s : State) : (setSlot i r s).tickPos = s.tickPos := by
  unfold setSlot; split <;> rfl

@[simp] theorem setSlot_voteA (i : BitVec 1) (r : TimeRecord) (s : State) : (setSlot i r s).voteA = s.voteA := by
  unfold setSlot; split <;> rfl

@[simp] theorem setSlot_voteB (i : BitVec 1) (r : TimeRecord) (s : State) : (setSlot i r s).voteB = s.voteB := by
  unfold setSlot; split <;> rfl

@[simp] theorem setSlot_dstate (i : BitVec 1) (r : TimeRecord) (s : State) : (setSlot i r s).dstate = s.dstate := by
  unfold setSlot; split <;> rfl

@[simp] theorem setSlot_parity (i : BitVec 1) (r : TimeRecord) (s : State) : (setSlot i r s).parity = s.parity := by
  unfold setSlot; split <;> rfl

@[simp] theorem setSlot_minuteFault (i : BitVec 1) (r : TimeRecord) (s : State) : (setSlot i r s).minuteFault = s.minuteFault := by
  unfold setSlot; split <;> rfl

@[simp] theorem setSlot_validTimeInfo (i : BitVec 1) (r : TimeRecord) (s : State) : (setSlot i r s).validTimeInfo = s.validTimeInfo := by
  unfold setSlot; split <;> rfl

@[simp] theorem setSlot_leapExt (i : BitVec 1) (r : TimeRecord) (s : State) : (setSlot i r s).leapExt = s.leapExt := by
  unfold setSlot; split <;> rfl

@[simp] theorem setSlot_secCount (i : BitVec 1) (r : TimeRecord) (s : State) : (setSlot i r s).secCount = s.secCount := by
  unfold setSlot; split <;> rfl

@[simp] theorem setSlot_writeIndex (i : BitVec 1) (r : TimeRecord) (s : State) : (setSlot i r s).writeIndex = s.writeIndex := by
  unfold setSlot; split <;> rfl

@[simp] theorem setSlot_readIndex (i : BitVec 1) (r : TimeRecord) (s : State) : (setSlot i r s).readIndex = s.readIndex := by
  unfold setSlot; split <;> rfl

@[simp] theorem setSlot_fresh (i : BitVec 1) (r : TimeRecord) (s : State) : (setSlot i r s).fresh = s.fresh := by
  unfold setSlot; split <;> rfl

@[simp] theorem setSlot_needsFallback (i : BitVec 1) (r : TimeRecord) (s : State) : (setSlot i r s).needsFallback = s.needsFallback := by
  unfold setSlot; split <;> rfl

@[simp] theorem setSlot_everPublished (i : BitVec 1) (r : TimeRecord) (s : State) : (setSlot i r s).everPublished = s.everPublished := by
  unfold setSlot; split <;> rfl

@[simp] theorem setSlot_lastError (i : BitVec 1) (r : TimeRecord) (s : State) : (setSlot i r s).lastError = s.lastError := by
  unfold setSlot; split <;> rfl

@[simp] theorem setSlot_errorDecoderState (i : BitVec 1) (r : TimeRecord) (s : State) : (setSlot i r s).errorDecoderState = s.errorDecoderState := by
  unfold setSlot; split <;> rfl

@[simp] theorem setSlot_errorPosition (i : BitVec 1) (r : TimeRecord) (s : State) : (setSlot i r s).errorPosition = s.errorPosition := by
  unfold setSlot; split <;> rfl

@[simp] theorem setSlot_errCount (i : BitVec 1) (r : TimeRecord) (s : State) : (setSlot i r s).errCount = s.errCount := by
  unfold setSlot; split <;> rfl

@[simp] theorem setSlot_cfg (i : BitVec 1) (r : TimeRecord) (s : State) : (setSlot i r s).cfg = s.cfg := by
  unfold setSlot; split <;> rfl

@[simp] theorem setSlot_commands (i : BitVec 1) (r : TimeRecord) (s : State) : (setSlot i r s).commands = s.commands := by
  unfold setSlot; split <;> rfl

@[simp] theorem setSlot_responses (i : BitVec 1) (r : TimeRecord) (s : State) : (setSlot i r s).responses = s.responses := by
  unfold setSlot; split <;> rfl

@[simp] theorem setSlot_resetDraws (i : BitVec 1) (r : TimeRecord) (s : State) : (setSlot i r s).resetDraws = s.resetDraws := by
  unfold setSlot; split <;> rfl

@[simp] theorem updateWrite_edgeCnt (f : TimeRecord → TimeRecord) (s : State) : (updateWrite f s).edgeCnt = s.edgeCnt :=
  setSlot_edgeCnt _ _ _

@[simp] theorem updateWrite_syncRun (f : TimeRecord → TimeRecord) (s : State) : (updateWrite f s).syncRun = s.syncRun :=
  setSlot_syncRun _ _ _

@[simp] theorem updateWrite_tickPos (f : TimeRecord → TimeRecord) (s : State) : (updateWrite f s).tickPos = s.tickPos :=
  setSlot_tickPos _ _ _

@[simp] theorem updateWrite_voteA (f : TimeRecord → TimeRecord) (s : State) : (updateWrite f s).voteA = s.voteA :=
  setSlot_voteA _ _ _

@[simp] theorem updateWrite_voteB (f : TimeRecord → TimeRecord) (s : State) : (updateWrite f s).voteB = s.voteB :=
  setSlot_voteB _ _ _

@[simp] theorem updateWrite_dstate (f : TimeRecord → TimeRecord) (s : State) : (updateWrite f s).dstate = s.dstate :=
  setSlot_dstate _ _ _

@[simp] theorem updateWrite_parity (f : TimeRecord → TimeRecord) (s : State) : (updateWrite f s).parity = s.parity :=
  setSlot_parity _ _ _

@[simp] theorem updateWrite_minuteFault (f : TimeRecord → TimeRecord) (s : State) : (updateWrite f s).minuteFault = s.minuteFault :=
  setSlot_minuteFault _ _ _

@[simp] theorem updateWrite_validTimeInfo (f : TimeRecord → TimeRecord) (s : State) : (updateWrite f s).validTimeInfo = s.validTimeInfo :=
  setSlot_validTimeInfo _ _ _

@[simp] theorem updateWrite_leapExt (f : TimeRecord → TimeRecord) (s : State) : (updateWrite f s).leapExt = s.leapExt :=
  setSlot_leapExt _ _ _

@[simp] theorem updateWrite_secCount (f : TimeRecord → TimeRecord) (s : State) : (updateWrite f s).secCount = s.secCount :=
  setSlot_secCount _ _ _

@[simp] theorem updateWrite_writeIndex (f : TimeRecord → TimeRecord) (s : State) : (updateWrite f s).writeIndex = s.writeIndex :=
  setSlot_writeIndex _ _ _

@[simp] theorem updateWrite_readIndex (f : TimeRecord → TimeRecord) (s : State) : (updateWrite f s).readIndex = s.readIndex :=
  setSlot_readIndex _ _ _

@[simp] theorem updateWrite_fresh (f : TimeRecord → TimeRecord) (s : State) : (updateWrite f s).fresh = s.fresh :=
  setSlot_fresh _ _ _

@[simp] theorem updateWrite_needsFallback (f : TimeRecord → TimeRecord) (s : State) : (updateWrite f s).needsFallback = s.needsFallback :=
  setSlot_needsFallback _ _ _

@[simp] theorem updateWrite_everPublished (f : TimeRecord → TimeRecord) (s : State) : (updateWrite f s).everPublished = s.everPublished :=
  setSlot_everPublished _ _ _

@[simp] theorem updateWrite_lastError (f : TimeRecord → TimeRecord) (s : State) : (updateWrite f s).lastError = s.lastError :=
  setSlot_lastError _ _ _

@[simp] theorem updateWrite_errorDecoderState (f : TimeRecord → TimeRecord) (s : State) : (updateWrite f s).errorDecoderState = s.errorDecoderState :=
  setSlot_errorDecoderState _ _ _

@[simp] theorem updateWrite_errorPosition (f : TimeRecord → TimeRecord) (s : State) : (updateWrite f s).errorPosition = s.errorPosition :=
  setSlot_errorPosition _ _ _

@[simp] theorem updateWrite_errCount (f : TimeRecord → TimeRecord) (s : State) : (updateWrite f s).errCount = s.errCount :=
  setSlot_errCount _ _ _

@[simp] theorem updateWrite_cfg (f : TimeRecord → TimeRecord) (s : State) : (updateWrite f s).cfg = s.cfg :=
  setSlot_cfg _ _ _

@[simp] theorem updateWrite_commands (f : TimeRecord → TimeRecord) (s : State) : (updateWrite f s).commands = s.commands :=
  setSlot_commands _ _ _

@[simp] theorem updateWrite_responses (f : TimeRecord → TimeRecord) (s : State) : (updateWrite f s).responses = s.responses :=
  setSlot_responses _ _ _

@[simp] theorem updateWrite_resetDraws (f : TimeRecord → TimeRecord) (s : State) : (updateWrite f s).resetDraws = s.resetDraws :=
  setSlot_resetDraws _ _ _

@[simp] theorem updateRead_edgeCnt (f : TimeRecord → TimeRecord) (s : State) : (updateRead f s).edgeCnt = s.edgeCnt :=
  setSlot_edgeCnt _ _ _

@[simp] theorem updateRead_syncRun (f : TimeRecord → TimeRecord) (s : State) : (updateRead f s).syncRun = s.syncRun :=
  setSlot_syncRun _ _ _

@[simp] theorem updateRead_tickPos (f : TimeRecord → TimeRecord) (s : State) : (updateRead f s).tickPos = s.tickPos :=
  setSlot_tickPos _ _ _

@[simp] theorem updateRead_voteA (f : TimeRecord → TimeRecord) (s : State) : (updateRead f s).voteA = s.voteA :=
  setSlot_voteA _ _ _

@[simp] theorem updateRead_voteB (f : TimeRecord → TimeRecord) (s : State) : (updateRead f s).voteB = s.voteB :=
  setSlot_voteB _ _ _

@[simp] theorem updateRead_dstate (f : TimeRecord → TimeRecord) (s : State) : (updateRead f s).dstate = s.dstate :=
  setSlot_dstate _ _ _

@[simp] theorem updateRead_parity (f : TimeRecord → TimeRecord) (s : State) : (updateRead f s).parity = s.parity :=
  setSlot_parity _ _ _

@[simp] theorem updateRead_minuteFault (f : TimeRecord → TimeRecord) (s : State) : (updateRead f s).minuteFault = s.minuteFault :=
  setSlot_minuteFault _ _ _

@[simp] theorem updateRead_validTimeInfo (f : TimeRecord → TimeRecord) (s : State) : (updateRead f s).validTimeInfo = s.validTimeInfo :=
  setSlot_validTimeInfo _ _ _

@[simp] theorem updateRead_leapExt (f : TimeRecord → TimeRecord) (s : State) : (updateRead f s).leapExt = s.leapExt :=
  setSlot_leapExt _ _ _

@[simp] theorem updateRead_secCount (f : TimeRecord → TimeRecord) (s : State) : (updateRead f s).secCount = s.secCount :=
  setSlot_secCount _ _ _

@[simp] theorem updateRead_writeIndex (f : TimeRecord → TimeRecord) (s : State) : (updateRead f s).writeIndex = s.writeIndex :=
  setSlot_writeIndex _ _ _

@[simp] theorem updateRead_readIndex (f : TimeRecord → TimeRecord) (s : State) : (updateRead f s).readIndex = s.readIndex :=
  setSlot_readIndex _ _ _

@[simp] theorem updateRead_fresh (f : TimeRecord → TimeRecord) (s : State) : (updateRead f s).fresh = s.fresh :=
  setSlot_fresh _ _ _

@[simp] theorem updateRead_needsFallback (f : TimeRecord → TimeRecord) (s : State) : (updateRead f s).needsFallback = s.needsFallback :=
  setSlot_needsFallback _ _ _

@[simp] theorem updateRead_everPublished (f : TimeRecord → TimeRecord) (s : State) : (updateRead f s).everPublished = s.everPublished :=
  setSlot_everPublished _ _ _

@[simp] theorem updateRead_lastError (f : TimeRecord → TimeRecord) (s : State) : (updateRead f s).lastError = s.lastError :=
  setSlot_lastError _ _ _

@[simp] theorem updateRead_errorDecoderState (f : TimeRecord → TimeRecord) (s : State) : (updateRead f s).errorDecoderState = s.errorDecoderState :=
  setSlot_errorDecoderState _ _ _

@[simp] theorem updateRead_errorPosition (f : TimeRecord → TimeRecord) (s : State) : (updateRead f s).errorPosition = s.errorPosition :=
  setSlot_errorPosition _ _ _

@[simp] theorem updateRead_errCount (f : TimeRecord → TimeRecord) (s : State) : (updateRead f s).errCount = s.errCount :=
  setSlot_errCount _ _ _

@[simp] theorem updateRead_cfg (f : TimeRecord → TimeRecord) (s : State) : (updateRead f s).cfg = s.cfg :=
  setSlot_cfg _ _ _

@[simp] theorem updateRead_commands (f : TimeRecord → TimeRecord) (s : State) : (updateRead f s).commands = s.commands :=
  setSlot_commands _ _ _

@[simp] theorem updateRead_responses (f : TimeRecord → TimeRecord) (s : State) : (updateRead f s).responses = s.responses :=
  setSlot_responses _ _ _

@[simp] theorem updateRead_resetDraws (f : TimeRecord → TimeRecord) (s : State) : (updateRead f s).resetDraws = s.resetDraws :=
  setSlot_resetDraws _ _ _

/-! ## raiseFault and raiseWhen: every field after a decode fault (60_exceptions R301) -/

@[simp] theorem raiseFault_edgeCnt (k : ErrorKind) (s : State) : (raiseFault k s).edgeCnt = s.edgeCnt := by
  cases k <;> rfl

@[simp] theorem raiseFault_syncRun (k : ErrorKind) (s : State) : (raiseFault k s).syncRun = if forcesNotSynced k then 0 else s.syncRun := by
  cases k <;> rfl

@[simp] theorem raiseFault_tickPos (k : ErrorKind) (s : State) : (raiseFault k s).tickPos = s.tickPos := by
  cases k <;> rfl

@[simp] theorem raiseFault_voteA (k : ErrorKind) (s : State) : (raiseFault k s).voteA = s.voteA := by
  cases k <;> rfl

@[simp] theorem raiseFault_voteB (k : ErrorKind) (s : State) : (raiseFault k s).voteB = s.voteB := by
  cases k <;> rfl

@[simp] theorem raiseFault_dstate (k : ErrorKind) (s : State) : (raiseFault k s).dstate = if forcesNotSynced k then 63 else s.dstate := by
  cases k <;> rfl

@[simp] theorem raiseFault_parity (k : ErrorKind) (s : State) : (raiseFault k s).parity = s.parity := by
  cases k <;> rfl

@[simp] theorem raiseFault_minuteFault (k : ErrorKind) (s : State) : (raiseFault k s).minuteFault = true := by
  cases k <;> rfl

@[simp] theorem raiseFault_validTimeInfo (k : ErrorKind) (s : State) : (raiseFault k s).validTimeInfo = false := by
  cases k <;> rfl

@[simp] theorem raiseFault_leapExt (k : ErrorKind) (s : State) : (raiseFault k s).leapExt = s.leapExt := by
  cases k <;> rfl

@[simp] theorem raiseFault_secCount (k : ErrorKind) (s : State) : (raiseFault k s).secCount = s.secCount := by
  cases k <;> rfl

@[simp] theorem raiseFault_slot0 (k : ErrorKind) (s : State) : (raiseFault k s).slot0 = s.slot0 := by
  cases k <;> rfl

@[simp] theorem raiseFault_slot1 (k : ErrorKind) (s : State) : (raiseFault k s).slot1 = s.slot1 := by
  cases k <;> rfl

@[simp] theorem raiseFault_writeIndex (k : ErrorKind) (s : State) : (raiseFault k s).writeIndex = s.writeIndex := by
  cases k <;> rfl

@[simp] theorem raiseFault_readIndex (k : ErrorKind) (s : State) : (raiseFault k s).readIndex = s.readIndex := by
  cases k <;> rfl

@[simp] theorem raiseFault_fresh (k : ErrorKind) (s : State) : (raiseFault k s).fresh = s.fresh := by
  cases k <;> rfl

@[simp] theorem raiseFault_needsFallback (k : ErrorKind) (s : State) : (raiseFault k s).needsFallback = s.needsFallback := by
  cases k <;> rfl

@[simp] theorem raiseFault_everPublished (k : ErrorKind) (s : State) : (raiseFault k s).everPublished = s.everPublished := by
  cases k <;> rfl

@[simp] theorem raiseFault_lastError (k : ErrorKind) (s : State) : (raiseFault k s).lastError = if s.lastError = 0 then errorCode k else s.lastError := by
  cases k <;> rfl

@[simp] theorem raiseFault_errorDecoderState (k : ErrorKind) (s : State) : (raiseFault k s).errorDecoderState = if s.lastError = 0 then s.dstate else s.errorDecoderState := by
  cases k <;> rfl

@[simp] theorem raiseFault_errorPosition (k : ErrorKind) (s : State) : (raiseFault k s).errorPosition = if s.lastError = 0 then s.secCount else s.errorPosition := by
  cases k <;> rfl

@[simp] theorem raiseFault_errCount (k : ErrorKind) (s : State) : (raiseFault k s).errCount = if s.errCount < s.cfg.errCntMax then s.errCount + 1 else s.errCount := by
  cases k <;> rfl

@[simp] theorem raiseFault_cfg (k : ErrorKind) (s : State) : (raiseFault k s).cfg = s.cfg := by
  cases k <;> rfl

@[simp] theorem raiseFault_commands (k : ErrorKind) (s : State) : (raiseFault k s).commands = s.commands := by
  cases k <;> rfl

@[simp] theorem raiseFault_responses (k : ErrorKind) (s : State) : (raiseFault k s).responses = s.responses := by
  cases k <;> rfl

@[simp] theorem raiseFault_resetDraws (k : ErrorKind) (s : State) : (raiseFault k s).resetDraws = s.resetDraws := by
  cases k <;> rfl

@[simp] theorem raiseWhen_false (k : ErrorKind) (s : State) : raiseWhen false k s = s := rfl
@[simp] theorem raiseWhen_true (k : ErrorKind) (s : State) : raiseWhen true k s = raiseFault k s := rfl

end Sys2Proof.Machine
end

