-- ==== Sys2Proof/Laws/Ops.lean ====
section
/-! SUPPORT. One lemma for each shared operation that says what it can do; the provers cite these and do not unfold the
operations. -/

namespace Sys2Proof.Machine

/-! ## Slots -/

/-- The slot written reads as what was written. -/
@[simp] theorem slot_setSlot_same (i : BitVec 1) (r : TimeRecord) (s : State) : slot i (setSlot i r s) = r := by
  unfold slot setSlot; split <;> rfl

/-- The other slot is left alone. -/
theorem slot_setSlot_other {i j : BitVec 1} (h : j ≠ i) (r : TimeRecord) (s : State) :
    slot j (setSlot i r s) = slot j s := by
  revert h
  obtain rfl | rfl : i = 0 ∨ i = 1 := by revert i; decide
  all_goals obtain rfl | rfl : j = 0 ∨ j = 1 := by revert j; decide
  all_goals first | exact fun h => absurd rfl h | exact fun _ => rfl

/-- `updateWrite f` rewrites the write slot by `f`. -/
@[simp] theorem writeSlot_updateWrite (f : TimeRecord → TimeRecord) (s : State) :
    writeSlot (updateWrite f s) = f (writeSlot s) := by
  simp only [updateWrite, writeSlot, setSlot_writeIndex, slot_setSlot_same]

/-- `updateRead f` rewrites the read slot by `f`. -/
@[simp] theorem readSlot_updateRead (f : TimeRecord → TimeRecord) (s : State) :
    readSlot (updateRead f s) = f (readSlot s) := by
  simp only [updateRead, readSlot, setSlot_readIndex, slot_setSlot_same]

/-- The decoder never writes the read slot while the roles differ (10_state R49). -/
theorem readSlot_updateWrite {s : State} (h : s.readIndex ≠ s.writeIndex) (f : TimeRecord → TimeRecord) :
    readSlot (updateWrite f s) = readSlot s := by
  simp only [updateWrite, readSlot, setSlot_readIndex, slot_setSlot_other h]

/-- The fallback never writes the write slot while the roles differ (R49). -/
theorem writeSlot_updateRead {s : State} (h : s.readIndex ≠ s.writeIndex) (f : TimeRecord → TimeRecord) :
    writeSlot (updateRead f s) = writeSlot s := by
  simp only [updateRead, writeSlot, setSlot_writeIndex, slot_setSlot_other h.symm]

/-- The slots of two states with the same slots are the same. -/
theorem slot_congr {s t : State} (h0 : t.slot0 = s.slot0) (h1 : t.slot1 = s.slot1) (i : BitVec 1) : slot i t = slot i s := by
  simp only [slot, h0, h1]

/-! ## Taking a fault (60_exceptions R301) -/

/-- A kind that forces nothing leaves the position and the lock, and the step goes on. -/
theorem raiseFault_of_not_forces {k : ErrorKind} (h : forcesNotSynced k = false) (s : State) :
    raiseFault k s = latchFault k (countFault (invalidateMinute s)) := by
  simp only [raiseFault, h, Bool.false_eq_true, if_false]

/-- A forcing kind also drops the decoder to NOT_SYNCED and unlocks. -/
theorem raiseFault_of_forces {k : ErrorKind} (h : forcesNotSynced k = true) (s : State) :
    raiseFault k s = forceNotSynced (latchFault k (countFault (invalidateMinute s))) := by
  simp only [raiseFault, h, if_true]

/-- Everything a fault can do: it writes the minute's two flags, the counter, the latch, and `dstate` with `sync_run`. -/
theorem raiseFault_writes (k : ErrorKind) (s : State) :
    raiseFault k s = { s with
      minuteFault := true
      validTimeInfo := false
      errCount := if s.errCount < s.cfg.errCntMax then s.errCount + 1 else s.errCount
      lastError := if s.lastError = 0 then errorCode k else s.lastError
      errorDecoderState := if s.lastError = 0 then s.dstate else s.errorDecoderState
      errorPosition := if s.lastError = 0 then s.secCount else s.errorPosition
      dstate := if forcesNotSynced k then 63 else s.dstate
      syncRun := if forcesNotSynced k then 0 else s.syncRun } := by
  cases h : forcesNotSynced k
  · rw [raiseFault_of_not_forces h]; rfl
  · rw [raiseFault_of_forces h]; rfl

/-- No kind has the code of NONE, so a fault always leaves the latch full. -/
theorem errorCode_ne_zero (k : ErrorKind) : errorCode k ≠ 0 := by cases k <;> decide

/-! ## The minute boundary (43_publish R241, R245) -/

/-- With a valid minute the boundary publishes. -/
theorem minuteBoundary_of_valid {s : State} (h : s.validTimeInfo = true) : minuteBoundary s = startMinute (publish s) := by
  simp only [minuteBoundary, h, if_true]

/-- With an invalid minute the boundary falls back. -/
theorem minuteBoundary_of_invalid {s : State} (h : s.validTimeInfo = false) : minuteBoundary s = startMinute (fallback s) := by
  simp only [minuteBoundary, h, Bool.false_eq_true, if_false]

/-- Before the first publish the fallback only sets its flag. -/
theorem fallback_of_never_published {s : State} (h : s.everPublished = false) :
    fallback s = { s with needsFallback := true } := by
  simp only [fallback, h, Bool.false_eq_true, if_false]

/-- After a publish the fallback also advances the read slot. -/
theorem fallback_of_published {s : State} (h : s.everPublished = true) :
    fallback s = updateRead advanceMinute { s with needsFallback := true } := by
  simp only [fallback, h, if_true]

/-! ## The decoder step (42_decoder R191) -/

/-- Everything a decoder step can do, by the position and the classification it starts from. -/
theorem secondStep_cases (c : Cls) (s : State) :
    (position s = .notSynced ∧ secondStep c s = s) ∨
    (position s = .undefined ∧ secondStep c s = raiseFault .undefinedState s) ∨
    (position s ≠ .notSynced ∧ position s ≠ .undefined ∧ secondStep c s = classStep (position s) c s) := by
  unfold secondStep
  cases position s <;> simp

/-- In a named position the step looks at the classification. -/
theorem secondStep_of_named {s : State} {q : Position} (c : Cls) (hq : position s = q) (h1 : q ≠ .notSynced)
    (h2 : q ≠ .undefined) : secondStep c s = classStep q c s := by
  subst hq
  obtain ⟨h, _⟩ | ⟨h, _⟩ | ⟨_, _, h⟩ := secondStep_cases c s
  · exact absurd h h1
  · exact absurd h h2
  · exact h

/-- The position class of a state at position number `n`. -/
theorem position_eq {s : State} {d : BitVec 6} (h : s.dstate = d) : position s = positionOfNat d.toNat := by
  rw [position, h]

/-! ## The events -/

/-- What each command's event makes of a state: the state its meaning answers. -/
theorem exec_tick (p : BitVec 1) (s : State) :
    exec (.tick p) s = .next
      (if s.tickPos = s.cfg.ticksPerSec - 1 then closeSecond (countSample p s)
       else { countSample p s with tickPos := s.tickPos + 1 }) := rfl

/-- Fetching takes the first word and nothing else. -/
theorem fetchCommand_eq_some {s t : State} {w : Byte} (h : fetchCommand s = some (w, t)) :
    s.commands = w :: t.commands ∧ t = { s with commands := t.commands } := by
  unfold fetchCommand at h
  split at h
  · cases h
  · next hc => simp only [Option.some.injEq, Prod.mk.injEq] at h; obtain ⟨rfl, rfl⟩ := h; exact ⟨hc, rfl⟩

/-- Everything a step can do. -/
theorem step_cases (s : State) :
    (s.commands = [] ∧ step s = .next s) ∨
    (∃ w rest i, s.commands = w :: rest ∧ decode w = .command i ∧ step s = exec i { s with commands := rest }) ∨
    (∃ w rest why, s.commands = w :: rest ∧ decode w = .reserved why ∧ step s = .refused (.reservedWord w why)) := by
  unfold step fetchCommand
  cases hc : s.commands with
  | nil => exact .inl ⟨rfl, rfl⟩
  | cons w rest =>
    cases hd : decode w with
    | command i => exact .inr (.inl ⟨w, rest, i, rfl, hd, by simp only [hd]⟩)
    | reserved why => exact .inr (.inr ⟨w, rest, why, rfl, hd, by simp only [hd]⟩)

end Sys2Proof.Machine
end

