-- ==== Sys2Proof/Laws/PerInstr.lean ====
section
/-! SUPPORT. Statements made per instruction, one lemma per constructor. Family OpcodeRow: the word of a command matches the
command's own row of the map (30_encoding R112) under the row's mask, and no other row. -/

namespace Sys2Proof.Laws.OpcodeRow

/-- A command of each row. -/
def rows : List Instr := [.tick 0, .edge, .cnt, .rdrec, .rdstat, .rdsec, .ack 0, .dgflt, .dgcnt, .reset]

/-- The word of `i` lies in `i`'s row of R112, and in the row of another mnemonic never. -/
def Statement (i : Instr) : Prop :=
  encode i &&& commandMask i = commandMatch i ∧
    ∀ j ∈ rows, encode i &&& commandMask j = commandMatch j → commandMatch j = commandMatch i

theorem tick (p : BitVec 1) : Statement (.tick p) := by revert p; unfold Statement; decide
theorem edge : Statement .edge := by unfold Statement; decide
theorem cnt : Statement .cnt := by unfold Statement; decide
theorem rdrec : Statement .rdrec := by unfold Statement; decide
theorem rdstat : Statement .rdstat := by unfold Statement; decide
theorem rdsec : Statement .rdsec := by unfold Statement; decide
theorem ack (m : BitVec 2) : Statement (.ack m) := by revert m; unfold Statement; decide
theorem dgflt : Statement .dgflt := by unfold Statement; decide
theorem dgcnt : Statement .dgcnt := by unfold Statement; decide
theorem reset : Statement .reset := by unfold Statement; decide

end Sys2Proof.Laws.OpcodeRow
end

