-- ==== Sys2Proof/Tests/Slice0.lean ====
section
/-! SUPPORT. Tests of the model against the spec's own vectors (spec/95_test_vectors.md), the well-formedness smoke tests, the
words of 30_encoding R112 written out bit by bit, and a witness for every statement that has hypotheses. -/

namespace Sys2Proof.Tests

open Sys2Proof Sys2Proof.Machine

/-! ## Helpers -/

/-- A record of 14:37, Wednesday 11.11.26, CET: the telegram T1437 of the vectors. -/
def recT1437 : TimeRecord :=
  { minT := 0x33, minO := 0x37, hourT := 0x31, hourO := 0x34, dayT := 0x31, dayO := 0x31, monthT := 0x31, monthO := 0x31
    yearT := 0x32, yearO := 0x36, weekday := 0x33, tzChange := false, isCest := false, isCet := true, leapPending := false }

/-- A small state with the vectors' parameters: locked, at the start of a minute, nothing published. -/
def base : State :=
  { edgeCnt := 0, syncRun := 3, tickPos := 0, voteA := 0, voteB := 0, dstate := 0, parity := false, minuteFault := false
    validTimeInfo := false, leapExt := false, secCount := 0, slot0 := recT1437, slot1 := recT1437, writeIndex := 0
    readIndex := 1, fresh := false, needsFallback := false, everPublished := false, lastError := 0, errorDecoderState := 0
    errorPosition := 0, errCount := 0, cfg := Config.vectors, commands := [], responses := [], resetDraws := 1 }

/-- `base` at decoder position `d`. -/
def at_ (d : BitVec 6) : State := { base with dstate := d, secCount := d }

/-- `base` before it has locked, with an interval of `d` counted and a run of `r`. -/
def unlockedAt (d : Nat) (r : BitVec 2) : State := { base with edgeCnt := d, syncRun := r, dstate := 63 }

/-- `base` at the second boundary with these votes. -/
def boundary (a b : BitVec 2) : State := { base with tickPos := 15, voteA := a, voteB := b }

/-- What `f` reads from the next state, or none where there is none. -/
def seen {α : Type} (f : State → α) : Host.Outcome State Fault Refusal → Option α
  | .next t => some (f t)
  | .fault _ => none
  | .refused _ => none

/-- What a step refuses, if it does. -/
def stopped : Host.Outcome State Fault Refusal → Option Refusal
  | .next _ => none
  | .fault _ => none
  | .refused r => some r

/-- The four time characters of a record at hour `ht ho`, minute `mt mo`, as characters in the image's order. -/
def withTime (mt mo ht ho : Byte) : TimeRecord := { recT1437 with minT := mt, minO := mo, hourT := ht, hourO := ho }

/-! ## WellFormed: each constraint refuses an ill-formed set of parameters (R6-R11) -/

theorem test_wf_vectors : Config.vectors.wf := by decide
theorem test_wf_refuses_ten_ticks : ¬ { Config.vectors with ticksPerSec := 10 }.wf := by decide
theorem test_wf_refuses_no_counter_rate : ¬ { Config.vectors with edgeCntHz := 0 }.wf := by decide
/-- Vector E3: with `EDGE_CNT_W = 11` and `F = 1024`, `32752 <= 34816`. -/
theorem test_wf_refuses_narrow_counter : ¬ { Config.vectors with edgeCntW := 11 }.wf := by decide
theorem test_wf_refuses_anchor_at_n : ¬ { Config.vectors with anchorOffset := 16 }.wf := by decide
theorem test_wf_refuses_no_fault_count : ¬ { Config.vectors with errCntMax := 0 }.wf := by decide
theorem test_wf_bounds : { Config.vectors with ticksPerSec := 11, anchorOffset := 10, errCntMax := 65535 }.wf := by decide
/-- The operand types leave no ill-formed command (R111): the constructors are all well formed. -/
theorem test_wf_commands : (Instr.tick 1).wf = true ∧ (Instr.ack 3).wf = true := by decide
/-- What an ill-formed operand would be in a word is refused by the decoder: TICK with `cmd[3:1] = 1`, ACK with
`cmd[3:2] = 1` (section 2 of the vectors). -/
theorem test_wf_ill_formed_operands :
    decode 0b00010010 = .reserved .badOperand ∧ decode 0b01110100 = .reserved .badOperand := by decide

/-! ## Decoding: words written out from R110-R112, operation code then operand -/

theorem test_decode_tick : decode 0b00010000 = .command (.tick 0) ∧ decode 0b00010001 = .command (.tick 1) := by decide
theorem test_decode_edge : decode 0b00100000 = .command .edge := by decide
theorem test_decode_cnt : decode 0b00110000 = .command .cnt := by decide
theorem test_decode_rdrec : decode 0b01000000 = .command .rdrec := by decide
theorem test_decode_rdstat : decode 0b01010000 = .command .rdstat := by decide
theorem test_decode_rdsec : decode 0b01100000 = .command .rdsec := by decide
theorem test_decode_ack : decode 0b01110001 = .command (.ack 0b01) ∧ decode 0b01110010 = .command (.ack 0b10) := by decide
theorem test_decode_dgflt : decode 0b10000000 = .command .dgflt := by decide
theorem test_decode_dgcnt : decode 0b10010000 = .command .dgcnt := by decide
theorem test_decode_reset : decode 0b11111111 = .command .reset := by decide
/-- The reserved words of section 2 of the vectors. -/
theorem test_decode_reserved :
    [0x00, 0xA0, 0xB5, 0xC0, 0xE7].map decode = List.replicate 5 (.reserved .noOperation) ∧
    [0x12, 0x21, 0x74, 0xF0, 0xFE].map decode = List.replicate 5 (.reserved .badOperand) := by decide
theorem test_decodeTableWord : decodeTableWord 8 0x72 = some (.ack 2) ∧ decodeTableWord 8 0x74 = none := by decide
theorem test_withFetchWord : seen State.edgeCnt (step (base.withFetchWord 8 0x30)) = some 1 := by decide

/-- R115's own lines, read as commands (and a comment, log entry 10's blank before it). -/
theorem test_assembly_lines :
    ["TICK 1", "TICK 0", "EDGE", "CNT", "RDREC", "RDSTAT", "RDSEC", "ACK 3", "DGFLT", "DGCNT", "RESET"].map
        (fun l => parseLine l.toList) =
      [.tick 1, .tick 0, .edge, .cnt, .rdrec, .rdstat, .rdsec, .ack 3, .dgflt, .dgcnt, .reset].map some ∧
    parseLine "ACK 0b11 ; both flags".toList = some (.ack 3) ∧ parseLine "TICK 2".toList = none := by decide

/-! ## One step per command, from the vectors -/

/-- E4. -/
theorem test_cnt_counts : seen State.edgeCnt (exec .cnt { base with edgeCnt := 1023 }) = some 1024 := by decide
/-- E4: at 65535, WRAP gives 0 (and SATURATE stays, in the witnesses below). -/
theorem test_cnt_wraps :
    seen State.edgeCnt (exec .cnt { base with edgeCnt := 65535, cfg := { Config.vectors with edgeCntOvf := .wrap } }) =
      some 0 := by decide
/-- E1. -/
theorem test_accept :
    [0, 959, 960, 1024, 1088, 1089, 1919, 1920, 2048, 2176, 2177, 3072].map (accept 1024) =
      [false, false, true, true, true, false, false, true, true, true, false, false] := by decide
/-- E2. -/
theorem test_accept_1000 :
    [937, 938, 1062, 1063, 1874, 1875, 2125, 2126].map (accept 1000) =
      [false, true, true, false, false, true, true, false] := by decide
/-- E7. -/
theorem test_edge_rejects : seen (fun t => (t.edgeCnt, t.syncRun)) (exec .edge (unlockedAt 1500 2)) = some (0, 0) := by decide
/-- B5: Lock takes the tick position from ANCHOR_OFFSET. -/
theorem test_edge_locks :
    seen (fun t => (t.syncRun, t.tickPos, t.dstate, t.secCount))
      (exec .edge { unlockedAt 1024 2 with cfg := { Config.vectors with anchorOffset := 5 } }) = some (3, 5, 0, 0) := by
  decide
/-- B3. -/
theorem test_tick_boundary :
    seen (fun t => (t.tickPos, t.voteA, t.voteB, t.dstate, t.errCount)) (exec (.tick 0) (boundary 0 3)) =
      some (0, 0, 0, 1, 0) := by decide
/-- B6: `N = 11`: the boundary tick's own sample completes the majority, so the second is ZERO. -/
theorem test_tick_eleven :
    seen (fun t => (t.dstate, t.errCount))
      (exec (.tick 1) { boundary 0 1 with tickPos := 10, cfg := { Config.vectors with ticksPerSec := 11 } }) =
      some (1, 0) := by decide
/-- The image of P2's RDREC. -/
theorem test_rdrec :
    seen State.responses (exec .rdrec base) =
      some [.record #v[0x33, 0x37, 0x31, 0x34, 0x31, 0x31, 0x31, 0x31, 0x32, 0x36, 0x33, 0x04]] := by decide
/-- Section 7 of the vectors. -/
theorem test_rdstat :
    seen State.responses (exec .rdstat { base with fresh := true, everPublished := true }) = some [.byte 0x05] ∧
    seen State.responses (exec .rdstat { base with needsFallback := true }) = some [.byte 0x02] := by decide
theorem test_rdsec : seen State.responses (exec .rdsec { base with secCount := 60 }) = some [.byte 0x3C] := by decide
theorem test_ack :
    seen (fun t => (t.fresh, t.needsFallback)) (exec (.ack 1) { base with fresh := true, needsFallback := true }) =
      some (false, true) ∧
    seen (fun t => (t.fresh, t.needsFallback)) (exec (.ack 2) { base with fresh := true, needsFallback := true }) =
      some (true, false) := by decide
theorem test_dgflt :
    seen (fun t => (t.responses, t.lastError, t.errorDecoderState, t.errorPosition))
      (exec .dgflt { base with lastError := 3, errorDecoderState := 59, errorPosition := 60 }) =
      some ([.half 0x3EFC], 0, 0, 0) := by decide
theorem test_dgcnt :
    seen (fun t => (t.responses, t.errCount)) (exec .dgcnt { base with errCount := 3 }) = some ([.half 3], 0) := by decide
/-- Section 8 of the vectors. -/
theorem test_reset :
    seen (fun t => (t.dstate, t.syncRun, t.writeIndex, t.readIndex)) (exec .reset (boundary 1 2)) = some (63, 0, 0, 1) := by
  decide

/-! ## Decoder steps, from section 5 of the vectors -/

/-- D2. -/
theorem test_start_of_minute_one :
    (secondStep .one (at_ 0)).dstate = 1 ∧ (secondStep .one (at_ 0)).lastError = 2 ∧
      (secondStep .one (at_ 0)).minuteFault = true := by decide
/-- D7. -/
theorem test_cet_cest :
    (secondStep .zero (at_ 18)).lastError = 5 ∧ (secondStep .zero (at_ 18)).errorPosition = 18 ∧
      (secondStep .zero (at_ 18)).dstate = 19 := by decide
/-- D13. -/
theorem test_minute_bit :
    (writeSlot (secondStep .one { at_ 24 with slot0 := withTime 0x30 0x31 0x30 0x30 })).minO = 0x39 := by decide
/-- D18: hour tens 3 is kept. -/
theorem test_hour_bit :
    (writeSlot (secondStep .one { at_ 34 with slot0 := withTime 0x30 0x30 0x31 0x30 })).hourT = 0x33 := by decide
/-- Section 6, F2: the fallback's carries. -/
theorem test_advance_minute :
    advanceMinute (withTime 0x35 0x39 0x32 0x33) = withTime 0x30 0x30 0x30 0x30 ∧
    advanceMinute (withTime 0x35 0x39 0x31 0x39) = withTime 0x30 0x30 0x32 0x30 ∧
    advanceMinute (withTime 0x35 0x39 0x32 0x34) = withTime 0x30 0x30 0x32 0x35 ∧
    advanceMinute (withTime 0x30 0x3F 0x30 0x30) = withTime 0x30 0x40 0x30 0x30 := by decide
/-- F1, by the MARKER at position 59 of a valid minute. -/
theorem test_publish :
    let t := secondStep .marker { at_ 59 with validTimeInfo := true, needsFallback := true }
    t.writeIndex = 1 ∧ t.readIndex = 0 ∧ t.fresh = true ∧ t.needsFallback = false ∧ t.everPublished = true := by decide

/-! ## Witnesses: command words -/

/-- ReservedWordsAreRefused: each clause of the list at a word, and words at its edges that are not listed. -/
theorem witness_reserved_words :
    [0x00, 0x0F, 0xA0, 0xBF, 0xC0, 0xDF, 0xE0, 0xF0, 0xFE, 0x12, 0x1F, 0x74, 0x7F, 0x21, 0x98].all
      (fun w => (stopped (step { base with commands := [w] })).isSome) = true ∧
    [0x10, 0x11, 0x20, 0x70, 0x73, 0x90, 0xFF].all
      (fun w => (stopped (step { base with commands := [w] })).isNone) = true := by decide
/-- DecodeEncodeAgree. -/
theorem witness_decode_encode : (Instr.ack 3).wf = true ∧ decode 0x73 = .command (.ack 3) := by decide
/-- StepRunsDecodedCommand. -/
theorem witness_step_runs :
    { base with commands := [0x11, 0x20] }.commands = 0x11 :: [0x20] ∧ decode 0x11 = .command (.tick 1) ∧
      base.commands = [] := by decide
/-- ResponsesAsMapped: a command of each width. -/
theorem witness_responses :
    responseBits .edge = none ∧ responseBits .rdrec = some 96 ∧ responseBits .rdstat = some 8 ∧
      responseBits .dgcnt = some 16 := by decide
/-- LegalStreamsNeverStop. -/
theorem witness_legal_stream : commandsLegal { base with commands := [0xFF, 0x20, 0x73, 0x11] } := by decide
/-- ParametersFixed, RolesSwapTogether: an event that is not RESET and has a next state. -/
theorem witness_event_answers : exec .cnt base = .next { base with edgeCnt := 1 } ∧ Instr.cnt ≠ .reset := ⟨rfl, by decide⟩

/-! ## Witnesses: edge synchronizer -/

/-- CntCounts: below the maximum, at it with SATURATE, at it with WRAP. -/
theorem witness_cnt :
    { base with edgeCnt := 65534 }.edgeCnt ≠ base.cfg.edgeCntMax ∧
    { base with edgeCnt := 65535 }.edgeCnt = base.cfg.edgeCntMax ∧ base.cfg.edgeCntOvf = .saturate ∧
    { Config.vectors with edgeCntOvf := .wrap }.edgeCntMax = 65535 ∧
    seen State.edgeCnt (exec .cnt { base with edgeCnt := 65534 }) = some 65535 ∧
    seen State.edgeCnt (exec .cnt { base with edgeCnt := 65535 }) = some 65535 := by decide
/-- WaitCounts. -/
theorem witness_wait :
    base.edgeCnt = 0 ∧ base.cfg.edgeCntOvf = .saturate ∧ { Config.vectors with edgeCntOvf := .wrap }.edgeCntOvf = .wrap := by
  decide
/-- FullCounterIsRejected. -/
theorem witness_full_counter :
    (unlockedAt 65535 2).cfg.wf ∧ (unlockedAt 65535 2).edgeCnt = (unlockedAt 65535 2).cfg.edgeCntMax ∧
      (unlockedAt 65535 2).syncRun ≠ 3 := by decide
/-- EdgeMeasuresAndLocks, unlocked: a rejected interval, and accepted ones at the windows' edges with a run of 0, 1 and 2. -/
theorem witness_edge_unlocked :
    (unlockedAt 959 2).syncRun ≠ 3 ∧ accept 1024 959 = false ∧ (unlockedAt 960 0).syncRun ≠ 2 ∧ accept 1024 960 = true ∧
      (unlockedAt 2176 1).syncRun ≠ 2 ∧ accept 1024 2176 = true ∧ (unlockedAt 1088 2).syncRun = 2 ∧ accept 1024 1088 = true ∧
      (unlockedAt 959 2).cfg.edgeCntHz = 1024 := by decide
/-- EdgeMeasuresAndLocks, locked (vector E8). -/
theorem witness_edge_locked :
    { base with edgeCnt := 500 }.syncRun = 3 ∧
      seen (fun t => (t.edgeCnt, t.syncRun)) (exec .edge { base with edgeCnt := 500 }) = some (0, 3) := by decide
/-- ThreeAcceptedIntervalsLock (vector S4: 1024, 2048, 1024). -/
theorem witness_three_intervals :
    (unlockedAt 0 0).syncRun = 0 ∧ (unlockedAt 0 0).edgeCnt = 0 ∧ 1024 ≤ (unlockedAt 0 0).cfg.edgeCntMax ∧
      2048 ≤ (unlockedAt 0 0).cfg.edgeCntMax ∧ accept (unlockedAt 0 0).cfg.edgeCntHz 1024 = true ∧
      accept (unlockedAt 0 0).cfg.edgeCntHz 2048 = true := by decide

/-! ## Witnesses: bit sampler -/

/-- TickSamplesAndClassifies: away from the boundary, at it unlocked, and at it with each classification. -/
theorem witness_tick :
    { base with tickPos := 14 }.tickPos ≠ base.cfg.ticksPerSec - 1 ∧ (boundary 0 0).tickPos = base.cfg.ticksPerSec - 1 ∧
      { boundary 0 0 with syncRun := 2 }.syncRun ≠ 3 ∧ (boundary 1 1).syncRun = 3 ∧
      (boundary 1 1).voteA < 2 ∧ (boundary 1 1).voteB < 2 ∧ (boundary 1 2).voteA < 2 ∧ 2 ≤ (boundary 1 2).voteB ∧
      2 ≤ (boundary 2 1).voteA ∧ (boundary 2 1).voteB < 2 ∧ 2 ≤ (boundary 2 2).voteA ∧ 2 ≤ (boundary 2 2).voteB := by decide
/-- UnlockedTickKeepsTheRest: at the boundary and one before it. -/
theorem witness_unlocked_tick :
    (unlockedAt 0 2).syncRun ≠ 3 ∧ { unlockedAt 0 2 with tickPos := 15 }.tickPos = (unlockedAt 0 2).cfg.ticksPerSec - 1 ∧
      { unlockedAt 0 2 with tickPos := 14 }.tickPos ≠ (unlockedAt 0 2).cfg.ticksPerSec - 1 := by decide
/-- NoClassificationBeforeBoundary: fifteen ticks from the start of a second of sixteen. -/
theorem witness_before_boundary : (List.replicate 15 (1#1)).length + base.tickPos < base.cfg.ticksPerSec := by decide
/-- OneSecondIsOneDecoderStep: a second of the `M` row of section 2. -/
theorem witness_one_second :
    [0#1, 1, 1, 1, 0, 0, 0, 0, 1, 1, 1, 0, 0, 0, 0, 0].length = base.cfg.ticksPerSec ∧ 11 ≤ base.cfg.ticksPerSec ∧
      base.tickPos = 0 ∧ base.voteA = 0 ∧ base.voteB = 0 := by decide
/-- SecPseudoCommandClassifies: the expansion of `SEC M` in section 2 is the one used. -/
theorem witness_sec :
    11 ≤ base.cfg.ticksPerSec ∧ base.tickPos = 0 ∧ base.voteA = 0 ∧ base.voteB = 0 ∧
      (secondCommands 16 .marker).map encode =
        [0x10, 0x11, 0x11, 0x11, 0x10, 0x10, 0x10, 0x10, 0x11, 0x11, 0x11, 0x10, 0x10, 0x10, 0x10, 0x10] := by decide

/-! ## Witnesses: protocol decoder -/

/-- ChecksBeforeThePosition: NOT_SYNCED, both ends of the undefined values, and INVALID at both ends of the positions. -/
theorem witness_checks :
    (at_ 63).dstate = 63 ∧ 60 ≤ (at_ 60).dstate ∧ (at_ 62).dstate ≤ 62 ∧ (at_ 60).lastError = 0 ∧ (at_ 0).dstate ≤ 59 ∧
      (at_ 59).dstate ≤ 59 ∧ (secondStep .invalid (at_ 59)).lastError = 10 ∧ (secondStep .marker (at_ 62)).lastError = 1 := by
  decide
/-- EarlyMarkerFallsBack: the first and the last early position. -/
theorem witness_early_marker : (at_ 0).dstate ≤ 58 ∧ (at_ 58).dstate ≤ 58 := by decide
/-- StartAndIgnoredPositions. -/
theorem witness_start_ignored : (at_ 0).dstate = 0 ∧ 1 ≤ (at_ 1).dstate ∧ (at_ 15).dstate ≤ 15 := by decide
/-- FlagPositionsAssign: each position. -/
theorem witness_flags :
    (at_ 16).dstate = 16 ∧ (at_ 17).dstate = 17 ∧ (at_ 18).dstate = 18 ∧ (at_ 19).dstate = 19 := by decide
/-- StartTimePosition (vector D11). -/
theorem witness_start_time : (at_ 20).dstate = 20 ∧ (secondStep .zero (at_ 20)).lastError = 6 := by decide
/-- TimeBitsAccumulate: the first and last bit of each digit. -/
theorem witness_time_bits :
    (at_ 21).dstate.toNat = 21 + 0 ∧ (at_ 24).dstate.toNat = 21 + 3 ∧ (at_ 25).dstate.toNat = 25 + 0 ∧
      (at_ 27).dstate.toNat = 25 + 2 ∧ (at_ 29).dstate.toNat = 29 + 0 ∧ (at_ 32).dstate.toNat = 29 + 3 ∧
      (at_ 33).dstate.toNat = 33 + 0 ∧ (at_ 34).dstate.toNat = 33 + 1 := by decide
/-- DateBitsAccumulate: the first and last bit of each digit. -/
theorem witness_date_bits :
    (at_ 36).dstate.toNat = 36 + 0 ∧ (at_ 39).dstate.toNat = 36 + 3 ∧ (at_ 40).dstate.toNat = 40 + 0 ∧
      (at_ 41).dstate.toNat = 40 + 1 ∧ (at_ 42).dstate.toNat = 42 + 0 ∧ (at_ 44).dstate.toNat = 42 + 2 ∧
      (at_ 45).dstate.toNat = 45 + 0 ∧ (at_ 48).dstate.toNat = 45 + 3 ∧ (at_ 49).dstate.toNat = 49 ∧
      (at_ 50).dstate.toNat = 50 + 0 ∧ (at_ 53).dstate.toNat = 50 + 3 ∧ (at_ 54).dstate.toNat = 54 + 0 ∧
      (at_ 57).dstate.toNat = 54 + 3 := by decide
/-- ParityPositionsCheckAndZero. -/
theorem witness_parity_positions : (at_ 28).dstate = 28 ∧ (at_ 35).dstate = 35 := by decide
/-- ParityDateGivesVerdict: both outcomes of the comparison. -/
theorem witness_parity_date : (at_ 58).dstate = 58 ∧ (at_ 58).parity = false ∧ (at_ 58).parity ≠ true := by decide
/-- ParityGroupsAreEven: the minute group of T1437. -/
theorem witness_parity_group :
    (21, 7) ∈ [(21, 7), (29, 6), (36, 22)] ∧ (at_ 21).dstate.toNat = 21 ∧
      [true, true, true, false, true, true, false].length = 7 ∧ (at_ 21).parity = false ∧ (at_ 21).minuteFault = false := by
  decide
/-- EndMarkerIsMinuteBoundary, a valid minute. -/
theorem witness_end_marker_valid :
    { at_ 59 with validTimeInfo := true }.dstate = 59 ∧ { at_ 59 with validTimeInfo := true }.validTimeInfo = true := by decide
/-- EndMarkerIsMinuteBoundary, an invalid minute. -/
theorem witness_end_marker_invalid : (at_ 59).dstate = 59 ∧ (at_ 59).validTimeInfo = false := by decide
/-- LeapExtensionOrBadEnd: announced and not yet extended; not announced; already extended. -/
theorem witness_leap :
    let announced : State := { at_ 59 with slot0 := { recT1437 with leapPending := true } }
    announced.dstate = 59 ∧ (writeSlot announced).leapPending = true ∧ announced.leapExt = false ∧
      (writeSlot (at_ 59)).leapPending = false ∧ (at_ 59).cfg.leapRequiresAnnounce = true ∧
      { announced with leapExt := true, secCount := 60 }.leapExt = true := by decide
/-- StepKeepsInvariant: a state with the invariant that a step moves. -/
theorem witness_invariant :
    Inv { base with commands := [0x11] } ∧ ∃ t, step { base with commands := [0x11] } = .next t := ⟨by decide, _, rfl⟩
/-- OldSlotContentsNeverSurface: two states whose write slots differ in a field this minute has not written. -/
theorem witness_same_to_consumer :
    sameToConsumer (at_ 21) { at_ 21 with slot0 := { recT1437 with dayO := 0x39 } } ∧
      at_ 21 ≠ { at_ 21 with slot0 := { recT1437 with dayO := 0x39 } } ∧ Instr.tick 0 ≠ .rdrec := by decide

/-- The data of T1437. -/
def telegramT1437 : Telegram :=
  { call := 0, tzChange := false, isCest := false, leapPending := false, minO := 7, minT := 3, hourO := 4, hourT := 1
    dayO := 1, dayT := 1, weekday := 3, monthO := 1, monthT := 1, yearO := 6, yearT := 2 }

/-- The 59 bits of T1437 as the vectors write it, and the record P2 reads. -/
theorem test_telegram_T1437 :
    (telegramBits telegramT1437).map (fun b => if b then 1 else 0) =
      [0, 0, 0, 0, 0, 0, 0, 0, 0, 0, 0, 0, 0, 0, 0, 0, 0, 0, 1, 0, 1, 1, 1, 1, 0, 1, 1, 0, 1, 0, 0, 1, 0, 1, 0, 0] ++
        [1, 0, 0, 0, 1, 0, 1, 1, 0, 1, 0, 0, 0, 1, 0, 1, 1, 0, 0, 1, 0, 0, 1] ∧
      telegramRecord telegramT1437 = recT1437 := by decide
/-- ValidTelegramIsPublished. -/
theorem witness_valid_telegram : base.dstate = 0 ∧ base.secCount = 0 ∧ base.minuteFault = false := by decide
/-- FlippedBitIsOneParityFault: the first and last data bit of each group, an empty latch and a full one. -/
theorem witness_flipped_bit :
    (21 ≤ 21 ∧ 27 ≤ 27 ∧ 29 ≤ 29 ∧ 34 ≤ 34 ∧ 36 ≤ 36 ∧ 57 ≤ 57) ∧ base.dstate = 0 ∧ base.secCount = 0 ∧
      base.minuteFault = false ∧ rolesDiffer base ∧ base.lastError = 0 ∧ { base with lastError := 5 }.lastError ≠ 0 := by decide

/-! ## Witnesses: double buffer, diagnostics, faults, reset -/

/-- AdvanceMinuteAddsOne: the last minute of a day (its record is in `test_advance_minute`). -/
theorem witness_advance_minute : 23 < 24 ∧ 59 < 60 ∧ (60 * 23 + 59 + 1) % 1440 = 0 := by decide
/-- AdvanceMinuteCases: a record for each clause: 00:0?, 00:69, 24:59, 09:59 and 23:59. -/
theorem witness_advance_cases :
    (withTime 0x30 0x3F 0x30 0x30).minO ≠ 0x39 ∧
    (let r := withTime 0x36 0x39 0x30 0x30; r.minO = 0x39 ∧ r.minT ≠ 0x35) ∧
    (let r := withTime 0x35 0x39 0x32 0x34;
      r.minO = 0x39 ∧ r.minT = 0x35 ∧ r.hourO ≠ 0x39 ∧ ¬ (r.hourT = 0x32 ∧ r.hourO = 0x33)) ∧
    (let r := withTime 0x35 0x39 0x30 0x39; r.minO = 0x39 ∧ r.minT = 0x35 ∧ r.hourO = 0x39) ∧
    (let r := withTime 0x35 0x39 0x32 0x33;
      r.minO = 0x39 ∧ r.minT = 0x35 ∧ r.hourT = 0x32 ∧ r.hourO = 0x33) := by decide

/-- The TICK that closes position 59 of a valid minute on a MARKER, and of an invalid one after a publish. -/
def closing (valid : Bool) : State :=
  { boundary 3 3 with dstate := 59, secCount := 59, validTimeInfo := valid, everPublished := !valid }

/-- OnlyValidBoundaryPublishes: an event that publishes. -/
theorem witness_publishes :
    seen State.writeIndex (exec (.tick 0) (closing true)) = some 1 ∧ (closing true).writeIndex = 0 ∧
      seen State.everPublished (exec (.tick 0) (closing true)) = some true ∧ (closing true).everPublished = false ∧
      Instr.tick 0 ≠ .reset := by decide
/-- ReadSlotChangesOnlyAtBoundary: a fallback after a publish, which changes the read slot. -/
theorem witness_read_slot_changes :
    rolesDiffer (closing false) ∧
      seen (fun t => decide (readSlot t ≠ readSlot (closing false))) (exec (.tick 0) (closing false)) = some true := by decide
/-- FaultProcedure: below and at the counter's maximum, an empty latch and a full one, a forcing kind and another. -/
theorem witness_fault :
    base.errCount < base.cfg.errCntMax ∧ base.cfg.errCntMax ≤ { base with errCount := 255 }.errCount ∧ base.lastError = 0 ∧
      { base with lastError := 7 }.lastError ≠ 0 ∧ forcesNotSynced .bitState = true ∧ forcesNotSynced .cetCest = false := by
  decide
/-- AtMostOneFaultPerEvent: an event that raises one. -/
theorem witness_one_fault :
    seen State.errCount (exec (.tick 0) (boundary 0 0)) = some 1 ∧ Instr.tick 0 ≠ .dgcnt ∧ Instr.tick 0 ≠ .reset := by decide
/-- FullLatchKeepsFirstFault: a full latch, and an event that raises another fault. -/
theorem witness_full_latch :
    { boundary 0 0 with lastError := 7 }.lastError ≠ 0 ∧
      seen (fun t => (t.lastError, t.errCount)) (exec (.tick 0) { boundary 0 0 with lastError := 7 }) = some (7, 1) ∧
      Instr.tick 0 ≠ .dgflt ∧ Instr.tick 0 ≠ .reset := by decide
/-- ContextsWriteTheirRow: a command of each context the statement names, and a TICK that clears `sync_run`: INVALID at a
second boundary. -/
theorem witness_contexts :
    commandContext (.tick 1) = .tickSource ∧ commandContext .edge = .edgeSource ∧ commandContext .cnt = .counterClock ∧
      commandContext .rdrec = .consumer ∧ commandContext .dgflt = .diagnostics ∧
      seen State.syncRun (exec (.tick 0) (boundary 2 1)) = some 0 := by decide
/-- ConsumerOnlyClears: a command that clears. -/
theorem witness_consumer_clears :
    commandContext (.ack 3) = .consumer ∧
      seen State.fresh (exec (.ack 3) { base with fresh := true }) = some false := by decide
/-- PowerOnIsReset: the parameters, the streams and the count of draws of the state before the power-on reset. -/
theorem witness_power_on :
    { base with resetDraws := 0 }.cfg = State.reset.cfg ∧ { base with resetDraws := 0 }.commands = [] ∧
      { base with resetDraws := 0 }.responses = [] ∧ { base with resetDraws := 0 }.resetDraws = 0 := by decide

end Sys2Proof.Tests
end

section
/-! PROOFS. The command words and the rejected edge: a step runs the command its first word decodes to (O4), and a full edge
counter is outside both acceptance windows (O13). -/

namespace Sys2Proof.Machine

/-! ## The word of a command (30_encoding R112) -/

/-- The two rows with an operand are checked for each value of it, the others once. -/
@[simp] theorem decode_encode (i : Instr) : decode (encode i) = .command i := by
  cases i with
  | tick p => revert p; decide
  | ack m => revert m; decide
  | _ => decide

/-- A word of eight bits survives being written as a number and read back. -/
@[simp] theorem withFetchWord_eight (w : Byte) (s : State) : s.withFetchWord 8 w.toNat = presentCommand w s := by
  rw [State.withFetchWord, Nat.mod_eq_of_lt w.isLt, BitVec.ofNat_toNat, BitVec.setWidth_eq]

/-! ## The step (70_reset R333) -/

theorem step_of_no_commands {s : State} (h : s.commands = []) : step s = .next s := by
  simp only [step, fetchCommand, h]

theorem step_of_command {s : State} {w : Byte} {rest : List Byte} {i : Instr} (h : s.commands = w :: rest)
    (hd : decode w = .command i) : step s = exec i { s with commands := rest } := by
  simp only [step, fetchCommand, h, hd]

/-- Settles O4: each clause is the step's case for its stream of words; a word placed in front is taken off again. -/
theorem stepRunsDecodedCommand : Obligations.StepRunsDecodedCommand := by
  refine ⟨fun s w rest i h hd => step_of_command h hd, fun s i => ?_, fun s h => step_of_no_commands h⟩
  rw [withFetchWord_eight]
  exact step_of_command (presentCommand_commands (encode i) s) (decode_encode i)

/-! ## The acceptance test and the rejected edge (40_edge_sync R154, R155) -/

/-- The two windows of R154, closed, over the naturals. -/
theorem accept_iff (f d : Nat) :
    accept f d = true ↔ (15 * f ≤ 16 * d ∧ 16 * d ≤ 17 * f) ∨ (30 * f ≤ 16 * d ∧ 16 * d ≤ 34 * f) := by
  simp only [accept, Bool.or_eq_true, decide_eq_true_eq]
  omega

/-- An interval beyond the far end of the second window is rejected. -/
theorem accept_eq_false_of_lt {f d : Nat} (h : 34 * f < 16 * d) : accept f d = false := by
  rw [Bool.eq_false_iff, Ne, accept_iff]
  omega

theorem locked_eq_false {s : State} (h : s.syncRun ≠ 3) : locked s = false := beq_false_of_ne h

theorem exec_edge_of_rejected {s : State} (hl : s.syncRun ≠ 3) (ha : accept s.cfg.edgeCntHz s.edgeCnt = false) :
    exec .edge s = .next { s with edgeCnt := 0, syncRun := 0 } := by
  have hunlocked : locked { s with edgeCnt := 0 } = false := locked_eq_false hl
  simp only [exec, execEdge, measureInterval, hunlocked, ha, Bool.false_eq_true, if_false]

/-- Settles O13: R8 puts the counter's maximum beyond the second window, so the full counter is a rejected interval. -/
theorem fullCounterIsRejected : Obligations.FullCounterIsRejected := by
  intro s ⟨_, _, hmax, _, _⟩ hfull hl
  exact exec_edge_of_rejected hl (accept_eq_false_of_lt (hfull ▸ hmax))

end Sys2Proof.Machine
end

section
/-! PROOFS. What an event can do to the consumer's side of the block (10_state R49, R59, 43_publish R242): every event but
the closing MARKER of a second and RESET keeps it (`exec_cases`). From that the parameters and the waiting words stand still
(O9), and the read slot changes only at a minute boundary (O43). -/

namespace Sys2Proof.Machine

/-! ## The frame of everything that is neither a minute boundary nor RESET -/

/-- `t` has what the consumer relies on as `s` had it: the parameters, the words waiting, the roles, `ever_published` and,
while the roles differ, the record read; `fresh` may have been cleared, not set. -/
structure ConsumerFrame (s t : State) : Prop where
  cfg_eq : t.cfg = s.cfg
  commands_eq : t.commands = s.commands
  writeIndex_eq : t.writeIndex = s.writeIndex
  readIndex_eq : t.readIndex = s.readIndex
  everPublished_eq : t.everPublished = s.everPublished
  fresh_only_falls : t.fresh = true → s.fresh = true
  readSlot_eq : rolesDiffer s → readSlot t = readSlot s

/-- The registers `ConsumerFrame` speaks of, both slots whole. -/
def consumerSide (s : State) :=
  (s.cfg, s.commands, s.writeIndex, s.readIndex, s.everPublished, s.fresh, s.slot0, s.slot1)

namespace ConsumerFrame

variable {s t u : State}

/-- An operation that writes none of those registers keeps the frame; most show it by `rfl`. -/
theorem of_consumerSide_eq (h : consumerSide t = consumerSide s) : ConsumerFrame s t := by
  simp only [consumerSide, Prod.mk.injEq] at h
  obtain ⟨hcfg, hcommands, hwrite, hread, hpublished, hfresh, hslot0, hslot1⟩ := h
  refine ⟨hcfg, hcommands, hwrite, hread, hpublished, hfresh ▸ id, fun _ => ?_⟩
  rw [readSlot, hread]
  exact slot_congr hslot0 hslot1 s.readIndex

theorem refl (s : State) : ConsumerFrame s s := of_consumerSide_eq rfl

theorem trans (h : ConsumerFrame s t) (h' : ConsumerFrame t u) : ConsumerFrame s u where
  cfg_eq := h'.cfg_eq.trans h.cfg_eq
  commands_eq := h'.commands_eq.trans h.commands_eq
  writeIndex_eq := h'.writeIndex_eq.trans h.writeIndex_eq
  readIndex_eq := h'.readIndex_eq.trans h.readIndex_eq
  everPublished_eq := h'.everPublished_eq.trans h.everPublished_eq
  fresh_only_falls := h.fresh_only_falls ∘ h'.fresh_only_falls
  readSlot_eq hr := by
    have hr' : rolesDiffer t := by rwa [rolesDiffer, h.readIndex_eq, h.writeIndex_eq]
    exact (h'.readSlot_eq hr').trans (h.readSlot_eq hr)

/-! The operations the decoder's rules are made of. -/

theorem then_advance (h : ConsumerFrame s t) : ConsumerFrame s (advance t) :=
  h.trans (of_consumerSide_eq rfl)

theorem then_clearParity (h : ConsumerFrame s t) : ConsumerFrame s (clearParity t) :=
  h.trans (of_consumerSide_eq rfl)

theorem then_raiseFault (k : ErrorKind) (h : ConsumerFrame s t) : ConsumerFrame s (raiseFault k t) := by
  rw [raiseFault_writes]
  exact h.trans (of_consumerSide_eq rfl)

theorem then_raiseWhen (bad : Bool) (k : ErrorKind) (h : ConsumerFrame s t) : ConsumerFrame s (raiseWhen bad k t) := by
  cases bad
  · exact h
  · exact h.then_raiseFault k

/-- The one operation of the decoder on a record: it needs the roles to differ (R49). -/
theorem then_updateWrite (f : TimeRecord → TimeRecord) (h : ConsumerFrame s t) : ConsumerFrame s (updateWrite f t) := by
  refine h.trans ⟨?_, ?_, ?_, ?_, ?_, ?_, fun hr => readSlot_updateWrite hr f⟩ <;> simp

end ConsumerFrame

/-! ## The decoder step without a MARKER (42_decoder R191) -/

section
open ConsumerFrame

theorem dataBit_frame (f : TimeRecord → TimeRecord) (v : Bool) (s : State) : ConsumerFrame s (dataBit f v s) :=
  have parity_frame : ConsumerFrame s { s with parity := parityNext s.parity v } :=
    of_consumerSide_eq rfl
  (parity_frame.then_updateWrite f).then_advance

theorem ruleParityDate_frame (v : Bool) (s : State) : ConsumerFrame s (ruleParityDate v s) :=
  have verdict_frame (t : State) : ConsumerFrame t { t with validTimeInfo := !t.minuteFault } :=
    of_consumerSide_eq rfl
  (((refl s).then_raiseWhen _ _).then_clearParity.trans (verdict_frame _)).then_advance

theorem ruleEndOfMinute_frame (v : Bool) (s : State) : ConsumerFrame s (ruleEndOfMinute v s) := by
  unfold ruleEndOfMinute
  split
  · exact of_consumerSide_eq rfl
  · exact (refl s).then_raiseFault _

/-- Every position's rule for a logical bit. -/
theorem positionRule_frame (q : Position) (v : Bool) (s : State) : ConsumerFrame s (positionRule q v s) := by
  cases q with
  | notSynced | undefined => exact refl s
  | startOfMinute => exact ((refl s).then_raiseWhen _ _).then_advance
  | ignore => exact (refl s).then_advance
  | newTz | cest | leap => exact ((refl s).then_updateWrite _).then_advance
  | cet => exact (((refl s).then_updateWrite _).then_raiseWhen _ _).then_advance
  | startTime | parityMinute | parityHour =>
    exact (((refl s).then_raiseWhen _ _).then_clearParity.then_updateWrite _).then_advance
  | minute | hour | day | weekday | month | year => exact dataBit_frame _ v s
  | parityDate => exact ruleParityDate_frame v s
  | endOfMinute => exact ruleEndOfMinute_frame v s

theorem classStep_frame (q : Position) {c : Cls} (hc : c ≠ .marker) (s : State) : ConsumerFrame s (classStep q c s) := by
  cases c with
  | invalid => exact (refl s).then_raiseFault .bitState
  | marker => exact absurd rfl hc
  | one => exact positionRule_frame q true s
  | zero => exact positionRule_frame q false s

/-- The positions with a rule are the values 0 to 59 (30_encoding R125). -/
theorem dstate_le_of_position {s : State} (h1 : position s ≠ .notSynced) (h2 : position s ≠ .undefined) : s.dstate ≤ 59 := by
  have named : ∀ d : BitVec 6, positionOfNat d.toNat ≠ .notSynced → positionOfNat d.toNat ≠ .undefined → d ≤ 59 := by decide
  exact named s.dstate h1 h2

/-- A decoder step leaves the consumer's side alone, unless it is a MARKER in a position 0 to 59. -/
theorem secondStep_frame_or_marker (c : Cls) (s : State) :
    ConsumerFrame s (secondStep c s) ∨ (s.dstate ≤ 59 ∧ c = .marker ∧ secondStep c s = markerStep (position s) s) := by
  obtain ⟨_, h⟩ | ⟨_, h⟩ | ⟨h1, h2, h⟩ := secondStep_cases c s <;> rw [h]
  · exact .inl (refl s)
  · exact .inl ((refl s).then_raiseFault _)
  · by_cases hc : c = .marker
    · subst hc
      exact .inr ⟨dstate_le_of_position h1 h2, rfl, rfl⟩
    · exact .inl (classStep_frame _ hc s)

/-! ## The events -/

theorem countSample_frame (p : BitVec 1) (s : State) : ConsumerFrame s (countSample p s) :=
  of_consumerSide_eq rfl

theorem startSecond_frame (s : State) : ConsumerFrame s (startSecond s) :=
  of_consumerSide_eq rfl

theorem execEdge_frame {s t : State} (h : execEdge s = .next t) : ConsumerFrame s t := by
  cases h
  dsimp only [measureInterval]
  split_ifs <;> exact of_consumerSide_eq rfl

/-- ACK is the one event that moves `fresh` without a publish, and it can only clear it (44_consumer R277). -/
theorem execAck_frame {m : BitVec 2} {s t : State} (h : execAck m s = .next t) : ConsumerFrame s t := by
  cases h
  refine ⟨rfl, rfl, rfl, rfl, rfl, ?_, fun _ => rfl⟩
  dsimp only
  split
  · exact fun hf => absurd hf Bool.false_ne_true
  · exact id

/-- TICK `p` in `s` ends a second with a MARKER that reaches the decoder in a position 0 to 59 (43_publish R241). -/
def ClosesMinute (p : BitVec 1) (s : State) : Prop :=
  s.tickPos = s.cfg.ticksPerSec - 1 ∧ s.syncRun = 3 ∧ s.dstate ≤ 59 ∧
    classify (countSample p s).voteA (countSample p s).voteB = .marker

theorem exec_tick_cases {p : BitVec 1} {s t : State} (h : exec (.tick p) s = .next t) :
    ConsumerFrame s t ∨ (ClosesMinute p s ∧ t = markerStep (position s) (startSecond (countSample p s))) := by
  have hsample := countSample_frame p s
  have hstart := hsample.trans (startSecond_frame _)
  rw [exec_tick, Host.Outcome.next.injEq] at h
  subst h
  split
  case isFalse => exact .inl (hsample.trans (of_consumerSide_eq rfl))
  case isTrue hpos =>
    dsimp only [closeSecond]
    split
    case isFalse => exact .inl hstart
    case isTrue hlocked =>
      obtain hframe | ⟨hd, hmarker, heq⟩ := secondStep_frame_or_marker
        (classify (countSample p s).voteA (countSample p s).voteB) (startSecond (countSample p s))
      · exact .inl (hstart.trans hframe)
      · exact .inr ⟨⟨hpos, eq_of_beq hlocked, hd, hmarker⟩, heq⟩

/-- Everything an event can do to the consumer's side. -/
theorem exec_cases {i : Instr} {s t : State} (h : exec i s = .next t) :
    ConsumerFrame s t ∨
    (∃ p, i = .tick p ∧ ClosesMinute p s ∧ t = markerStep (position s) (startSecond (countSample p s))) ∨
    (i = .reset ∧ t = resetBlock s) := by
  cases i with
  | tick p => exact (exec_tick_cases h).imp_right fun hclose => .inl ⟨p, rfl, hclose⟩
  | edge => exact .inl (execEdge_frame h)
  | ack m => exact .inl (execAck_frame h)
  | cnt | rdrec | rdstat | rdsec | dgflt | dgcnt =>
    cases h
    exact .inl (of_consumerSide_eq rfl)
  | reset =>
    cases h
    exact .inr (.inr ⟨rfl, rfl⟩)

end

/-! ## The parameters and the waiting words at a minute boundary -/

@[simp] theorem fallback_cfg (s : State) : (fallback s).cfg = s.cfg := by
  cases h : s.everPublished
  · rw [fallback_of_never_published h]
  · rw [fallback_of_published h, updateRead_cfg]

@[simp] theorem fallback_commands (s : State) : (fallback s).commands = s.commands := by
  cases h : s.everPublished
  · rw [fallback_of_never_published h]
  · rw [fallback_of_published h, updateRead_commands]

@[simp] theorem minuteBoundary_cfg (s : State) : (minuteBoundary s).cfg = s.cfg := by
  cases h : s.validTimeInfo
  · rw [minuteBoundary_of_invalid h, startMinute_cfg, fallback_cfg]
  · rw [minuteBoundary_of_valid h, startMinute_cfg, publish_cfg]

@[simp] theorem minuteBoundary_commands (s : State) : (minuteBoundary s).commands = s.commands := by
  cases h : s.validTimeInfo
  · rw [minuteBoundary_of_invalid h, startMinute_commands, fallback_commands]
  · rw [minuteBoundary_of_valid h, startMinute_commands, publish_commands]

@[simp] theorem markerStep_cfg (q : Position) (s : State) : (markerStep q s).cfg = s.cfg :=
  (minuteBoundary_cfg _).trans ((ConsumerFrame.refl s).then_raiseWhen _ _).cfg_eq

@[simp] theorem markerStep_commands (q : Position) (s : State) : (markerStep q s).commands = s.commands :=
  (minuteBoundary_commands _).trans ((ConsumerFrame.refl s).then_raiseWhen _ _).commands_eq

/-! ## The obligations -/

/-- Settles O9, event by event (`exec_cases`): within the frame, at a minute boundary, and at RESET. -/
theorem parametersFixed : Obligations.ParametersFixed := by
  intro i s t h
  obtain hframe | ⟨p, _, _, rfl⟩ | ⟨_, rfl⟩ := exec_cases h
  · exact ⟨hframe.cfg_eq, hframe.commands_eq⟩
  · exact ⟨markerStep_cfg _ _, markerStep_commands _ _⟩
  · exact ⟨rfl, rfl⟩

/-- Settles O43: an event that changes the record read is outside the frame, so it is a closing MARKER or RESET. -/
theorem readSlotChangesOnlyAtBoundary : Obligations.ReadSlotChangesOnlyAtBoundary := by
  intro i s t hroles h hreset hchanged
  obtain hframe | ⟨p, rfl, hclose, _⟩ | ⟨rfl, _⟩ := exec_cases h
  · exact absurd (hframe.readSlot_eq hroles) hchanged
  · exact ⟨p, rfl, hclose⟩
  · exact absurd rfl hreset

end Sys2Proof.Machine
end

section
/-! PROOFS. The words waiting in the stream are no part of what a command computes (20_memory R89): `exec` commutes with
replacing them (`exec_withCommands`), and so stepping through presented words is running their commands (O8). -/

namespace Sys2Proof.Machine

/-- `s` with `ws` as the words waiting in the stream. -/
def withCommands (ws : List Byte) (s : State) : State := { s with commands := ws }

section
variable (ws : List Byte) (s : State)

/-! ## What is read from the state does not see the waiting words -/

@[simp] theorem withCommands_parity : (withCommands ws s).parity = s.parity := rfl
@[simp] theorem withCommands_validTimeInfo : (withCommands ws s).validTimeInfo = s.validTimeInfo := rfl
@[simp] theorem writeSlot_withCommands : writeSlot (withCommands ws s) = writeSlot s := rfl
@[simp] theorem locked_withCommands : locked (withCommands ws s) = locked s := rfl
@[simp] theorem position_withCommands : position (withCommands ws s) = position s := rfl

/-! ## The shared operations keep the waiting words apart -/

@[simp] theorem advance_withCommands : advance (withCommands ws s) = withCommands ws (advance s) := rfl
@[simp] theorem clearParity_withCommands : clearParity (withCommands ws s) = withCommands ws (clearParity s) := rfl
@[simp] theorem startMinute_withCommands : startMinute (withCommands ws s) = withCommands ws (startMinute s) := rfl
@[simp] theorem publish_withCommands : publish (withCommands ws s) = withCommands ws (publish s) := rfl
@[simp] theorem countSample_withCommands (p : BitVec 1) :
    countSample p (withCommands ws s) = withCommands ws (countSample p s) := rfl
@[simp] theorem startSecond_withCommands : startSecond (withCommands ws s) = withCommands ws (startSecond s) := rfl

@[simp] theorem setSlot_withCommands (i : BitVec 1) (r : TimeRecord) :
    setSlot i r (withCommands ws s) = withCommands ws (setSlot i r s) := by
  unfold setSlot
  split <;> rfl

@[simp] theorem updateWrite_withCommands (f : TimeRecord → TimeRecord) :
    updateWrite f (withCommands ws s) = withCommands ws (updateWrite f s) :=
  setSlot_withCommands ws s _ _

@[simp] theorem updateRead_withCommands (f : TimeRecord → TimeRecord) :
    updateRead f (withCommands ws s) = withCommands ws (updateRead f s) :=
  setSlot_withCommands ws s _ _

@[simp] theorem raiseFault_withCommands (k : ErrorKind) :
    raiseFault k (withCommands ws s) = withCommands ws (raiseFault k s) := by
  rw [raiseFault_writes, raiseFault_writes]
  rfl

@[simp] theorem raiseWhen_withCommands (bad : Bool) (k : ErrorKind) :
    raiseWhen bad k (withCommands ws s) = withCommands ws (raiseWhen bad k s) := by
  cases bad
  · rfl
  · exact raiseFault_withCommands ws s k

/-! ## The decoder step (42_decoder R191) -/

theorem dataBit_withCommands (f : TimeRecord → TimeRecord) (v : Bool) :
    dataBit f v (withCommands ws s) = withCommands ws (dataBit f v s) :=
  congrArg advance (updateWrite_withCommands ws { s with parity := parityNext s.parity v } f)

/-- The verdict on the minute, the last write of PARITY_DATE, reads and writes flags only. -/
theorem ruleParityDate_withCommands (v : Bool) :
    ruleParityDate v (withCommands ws s) = withCommands ws (ruleParityDate v s) := by
  simp only [ruleParityDate, withCommands_parity, raiseWhen_withCommands, clearParity_withCommands]
  rfl

theorem ruleEndOfMinute_withCommands (v : Bool) :
    ruleEndOfMinute v (withCommands ws s) = withCommands ws (ruleEndOfMinute v s) := by
  rw [ruleEndOfMinute, ruleEndOfMinute, apply_ite (withCommands ws), raiseFault_withCommands]
  rfl

/-- Every position's rule for a logical bit: a composition of the shared operations. -/
@[simp] theorem positionRule_withCommands (q : Position) (v : Bool) :
    positionRule q v (withCommands ws s) = withCommands ws (positionRule q v s) := by
  cases q with
  | notSynced | undefined | ignore => rfl
  | startOfMinute => simp [positionRule, ruleStartOfMinute]
  | newTz | cest | cet | leap => simp [positionRule, ruleNewTz, ruleCest, ruleCet, ruleLeap]
  | startTime | parityMinute | parityHour =>
    simp [positionRule, ruleStartTime, ruleParityMinute, ruleParityHour]
  | minute | hour | day | weekday | month | year => exact dataBit_withCommands ws s _ v
  | parityDate => exact ruleParityDate_withCommands ws s v
  | endOfMinute => exact ruleEndOfMinute_withCommands ws s v

@[simp] theorem fallback_withCommands : fallback (withCommands ws s) = withCommands ws (fallback s) := by
  cases h : s.everPublished
  · rw [fallback_of_never_published h, fallback_of_never_published (s := withCommands ws s) h]
    rfl
  · rw [fallback_of_published h, fallback_of_published (s := withCommands ws s) h]
    exact updateRead_withCommands ws { s with needsFallback := true } advanceMinute

@[simp] theorem minuteBoundary_withCommands :
    minuteBoundary (withCommands ws s) = withCommands ws (minuteBoundary s) := by
  cases h : s.validTimeInfo
  · simp [minuteBoundary_of_invalid, h]
  · simp [minuteBoundary_of_valid, h]

@[simp] theorem classStep_withCommands (q : Position) (c : Cls) :
    classStep q c (withCommands ws s) = withCommands ws (classStep q c s) := by
  cases c with
  | invalid => exact raiseFault_withCommands ws s .bitState
  | marker => simp [classStep, markerStep]
  | one | zero => exact positionRule_withCommands ws s q _

@[simp] theorem secondStep_withCommands (c : Cls) :
    secondStep c (withCommands ws s) = withCommands ws (secondStep c s) := by
  unfold secondStep
  rw [position_withCommands]
  cases position s with
  | notSynced => rfl
  | undefined => exact raiseFault_withCommands ws s .undefinedState
  | _ => exact classStep_withCommands ws s _ c

/-! ## The events -/

theorem closeSecond_withCommands : closeSecond (withCommands ws s) = withCommands ws (closeSecond s) := by
  simp only [closeSecond, locked_withCommands, startSecond_withCommands, secondStep_withCommands,
    apply_ite (withCommands ws)]
  rfl

theorem measureInterval_withCommands (d : Nat) :
    measureInterval d (withCommands ws s) = withCommands ws (measureInterval d s) := by
  simp only [measureInterval, apply_ite (withCommands ws)]
  rfl

end

/-- A command does the same whatever words wait behind it, and leaves them waiting. -/
theorem exec_withCommands {i : Instr} {s t : State} (h : exec i s = .next t) (ws : List Byte) :
    exec i (withCommands ws s) = .next (withCommands ws t) := by
  cases i with
  | tick p =>
    cases h
    rw [exec_tick, countSample_withCommands, closeSecond_withCommands, apply_ite (withCommands ws)]
    rfl
  | edge =>
    cases h
    simp only [exec, execEdge, apply_ite (withCommands ws), ← measureInterval_withCommands]
    rfl
  | cnt | rdrec | rdstat | rdsec | ack | dgflt | dgcnt | reset =>
    cases h
    rfl

/-- Every command has a next state: no meaning stops (60_exceptions R303). -/
theorem exists_exec_eq_next (i : Instr) (s : State) : ∃ t, exec i s = .next t := by
  cases i <;> exact ⟨_, rfl⟩

/-! ## Runs (70_reset R349) -/

theorem run_succ_of_step {s t : State} (h : step s = .next t) (n : Nat) :
    Host.Core.run Sys2Proof.core (n + 1) s = Host.Core.run Sys2Proof.core n t := by
  have hcore : Sys2Proof.core.step s = .next t := h
  simp only [Host.Core.run, hcore]

theorem runCommands_cons {i : Instr} {s t : State} (h : exec i s = .next t) (is : List Instr) :
    runCommands (i :: is) s = runCommands is t := by
  simp only [runCommands, h]

/-- Settles O8, by induction on the commands: the first word is taken off and its command reaches, but for the words
waiting, the state the plain run reaches (`exec_withCommands`). -/
theorem runOfPresentedWords : Obligations.RunOfPresentedWords := by
  intro is rest s
  induction is generalizing s with
  | nil => rfl
  | cons i is ih =>
    obtain ⟨t, ht⟩ := exists_exec_eq_next i s
    have hstep : step (withCommands (encode i :: (is.map encode ++ rest)) s) =
        .next (withCommands (is.map encode ++ rest) t) :=
      (step_of_command rfl (decode_encode i)).trans (exec_withCommands ht _)
    have hrun : runCommands (i :: is) (withCommands rest s) = runCommands is (withCommands rest t) :=
      runCommands_cons (exec_withCommands ht rest) is
    exact (run_succ_of_step hstep is.length).trans ((ih t).trans hrun.symm)

end Sys2Proof.Machine
end

section
/-! PROOFS. The command map (30_encoding R110-R114): decoding and encoding agree, row by row (O3, O1), and the words a
step refuses are the rule's list (O2). -/

namespace Sys2Proof.Machine

/-! ## A row of the map -/

theorem decodeRow_eq_command_iff {w mask pat : Byte} {i j : Instr} :
    decodeRow w mask pat j = .command i ↔ w &&& mask = pat ∧ j = i := by
  unfold decodeRow
  split <;> simp [*]

theorem decodeRow_reserved_iff {w mask pat : Byte} {i : Instr} :
    (∃ why, decodeRow w mask pat i = .reserved why) ↔ w &&& mask ≠ pat := by
  unfold decodeRow
  split <;> simp [*]

/-! ## Encoding what was decoded -/

/-- A row without an operand fixes the whole word. -/
theorem eq_of_and_full_mask {w pat : Byte} (h : w &&& 0xFF = pat) : pat = w :=
  h.symm.trans BitVec.and_allOnes

/-- TICK's row leaves free the bit that `p` names, and no other. -/
theorem encode_tick_pinField (w : Byte) (h : w &&& 0xFE = 0x10) : encode (.tick (pinField w)) = w := by
  revert w
  decide

/-- ACK's row leaves free the two bits that `m` names, and no other. -/
theorem encode_ack_maskField (w : Byte) (h : w &&& 0xFC = 0x70) : encode (.ack (maskField w)) = w := by
  revert w
  decide

/-- The converse of `decode_encode`, row by row: the row's mask and pattern fix every bit its operand does not name. -/
theorem encode_of_decode {w : Byte} {i : Instr} (h : decode w = .command i) : encode i = w := by
  unfold decode at h
  split at h
  case h_1 => -- TICK
    obtain ⟨hw, rfl⟩ := decodeRow_eq_command_iff.1 h
    exact encode_tick_pinField w hw
  case h_7 => -- ACK
    obtain ⟨hw, rfl⟩ := decodeRow_eq_command_iff.1 h
    exact encode_ack_maskField w hw
  case h_11 => cases h -- no command's operation code
  all_goals
    obtain ⟨hw, rfl⟩ := decodeRow_eq_command_iff.1 h
    exact eq_of_and_full_mask hw

/-- Settles O3: the two directions are `decode_encode` and `encode_of_decode`. -/
theorem decodeEncodeAgree : Obligations.DecodeEncodeAgree :=
  ⟨fun i _ => decode_encode i, fun _ _ => encode_of_decode⟩

/-- Settles O1: each word of the map is the encoding of its command. -/
theorem commandMapDecodes : Obligations.CommandMapDecodes :=
  ⟨decode_encode (.tick 0), decode_encode (.tick 1), decode_encode .edge, decode_encode .cnt, decode_encode .rdrec,
    decode_encode .rdstat, decode_encode .rdsec, decode_encode (.ack 0), decode_encode (.ack 1), decode_encode (.ack 2),
    decode_encode (.ack 3), decode_encode .dgflt, decode_encode .dgcnt, decode_encode .reset⟩

/-! ## The reserved words -/

/-- R113's list. -/
def ReservedWord (w : Byte) : Prop :=
  let op := commandOp w
  let opd := w.extractLsb' 0 4
  op = 0x0 ∨ op = 0xA ∨ op = 0xB ∨ op = 0xC ∨ op = 0xD ∨ op = 0xE ∨ (op = 0xF ∧ opd ≠ 0xF) ∨
    (op = 0x1 ∧ w.extractLsb' 1 3 ≠ 0) ∨ (op = 0x7 ∧ w.extractLsb' 2 2 ≠ 0) ∨
    ((op = 0x2 ∨ op = 0x3 ∨ op = 0x4 ∨ op = 0x5 ∨ op = 0x6 ∨ op = 0x8 ∨ op = 0x9) ∧ opd ≠ 0)

/-- A row without an operand is met by its operation code and its four low bits. -/
theorem and_full_mask_eq_iff {w : Byte} {op : BitVec 4} (hop : commandOp w = op) (opd : BitVec 4) :
    w &&& 0xFF = op ++ opd ↔ w.extractLsb' 0 4 = opd := by
  have hsplit : w = op ++ w.extractLsb' 0 4 := by
    subst hop
    revert w
    decide
  rw [show w &&& 0xFF = w from BitVec.and_allOnes]
  constructor
  · rintro rfl
    exact BitVec.extractLsb'_append_eq_right
  · rintro rfl
    exact hsplit

/-- TICK's row is met when `cmd[3:1]` is 0. -/
theorem and_tick_mask_eq_iff {w : Byte} (hop : commandOp w = 0x1) : w &&& 0xFE = 0x10 ↔ w.extractLsb' 1 3 = 0 := by
  revert w
  decide

/-- ACK's row is met when `cmd[3:2]` is 0. -/
theorem and_ack_mask_eq_iff {w : Byte} (hop : commandOp w = 0x7) : w &&& 0xFC = 0x70 ↔ w.extractLsb' 2 2 = 0 := by
  revert w
  decide

/-- The ten operation codes of R112, and the six without a command. -/
theorem opCode_cases (op : BitVec 4) :
    (op = 0x1 ∨ op = 0x2 ∨ op = 0x3 ∨ op = 0x4 ∨ op = 0x5 ∨ op = 0x6 ∨ op = 0x7 ∨ op = 0x8 ∨ op = 0x9 ∨ op = 0xF) ∨
    (op = 0x0 ∨ op = 0xA ∨ op = 0xB ∨ op = 0xC ∨ op = 0xD ∨ op = 0xE) := by
  revert op
  decide

/-- The decoder's reserved words are R113's: a row's word is reserved when it misses the row's pattern, and a word of no
row has one of the six operation codes without a command. -/
theorem decode_reserved_iff (w : Byte) : (∃ why, decode w = .reserved why) ↔ ReservedWord w := by
  unfold decode
  split <;> rename_i hop
  case h_1 => -- TICK
    simpa [decodeRow_reserved_iff, ReservedWord, hop] using not_congr (and_tick_mask_eq_iff hop)
  case h_7 => -- ACK
    simpa [decodeRow_reserved_iff, ReservedWord, hop] using not_congr (and_ack_mask_eq_iff hop)
  case h_10 => -- RESET
    simpa [decodeRow_reserved_iff, ReservedWord, hop] using not_congr (and_full_mask_eq_iff hop 0xF)
  case h_11 => -- no command's operation code
    refine iff_of_true ⟨_, rfl⟩ ?_
    have hcodes := opCode_cases (commandOp w)
    unfold ReservedWord
    tauto
  all_goals -- the rows without an operand
    simpa [decodeRow_reserved_iff, ReservedWord, hop] using not_congr (and_full_mask_eq_iff hop 0)

theorem step_of_reserved {s : State} {w : Byte} {rest : List Byte} {why : Reserved} (h : s.commands = w :: rest)
    (hd : decode w = .reserved why) : step s = .refused (.reservedWord w why) := by
  simp only [step, fetchCommand, h, hd]

/-- Settles O2: a listed word is one the decoder calls reserved, and the command of any other word has a next state. -/
theorem reservedWordsAreRefused : Obligations.ReservedWordsAreRefused := by
  intro s w rest hw
  refine ⟨fun hlisted => ?_, fun hnot => ?_⟩
  · obtain ⟨why, hd⟩ := (decode_reserved_iff w).2 hlisted
    exact ⟨why, step_of_reserved hw hd⟩
  · cases hd : decode w with
    | reserved why => exact absurd ((decode_reserved_iff w).1 ⟨why, hd⟩) hnot
    | command i =>
      rw [step_of_command hw hd]
      exact exists_exec_eq_next i _

end Sys2Proof.Machine
end

section
/-! PROOFS. The response port (30_encoding R114): the decoder, the synchronizer and the buffer never write it, and each
command delivers what the map's response column gives it (O6). -/

namespace Sys2Proof.Machine

/-! ## The decoder step delivers nothing (42_decoder R191) -/

@[simp] theorem raiseWhen_responses (bad : Bool) (k : ErrorKind) (s : State) :
    (raiseWhen bad k s).responses = s.responses := by
  cases bad
  · rfl
  · exact raiseFault_responses k s

theorem dataBit_responses (f : TimeRecord → TimeRecord) (v : Bool) (s : State) : (dataBit f v s).responses = s.responses :=
  updateWrite_responses f { s with parity := parityNext s.parity v }

theorem ruleEndOfMinute_responses (v : Bool) (s : State) : (ruleEndOfMinute v s).responses = s.responses := by
  unfold ruleEndOfMinute
  split
  · rfl
  · exact raiseFault_responses .endOfMinute s

@[simp] theorem positionRule_responses (q : Position) (v : Bool) (s : State) :
    (positionRule q v s).responses = s.responses := by
  cases q with
  | notSynced | undefined | ignore => rfl
  | startOfMinute => simp [positionRule, ruleStartOfMinute]
  | newTz | cest | cet | leap => simp [positionRule, ruleNewTz, ruleCest, ruleCet, ruleLeap]
  | startTime | parityMinute | parityHour =>
    simp [positionRule, ruleStartTime, ruleParityMinute, ruleParityHour]
  | minute | hour | day | weekday | month | year => exact dataBit_responses _ v s
  | parityDate => simp [positionRule, ruleParityDate]
  | endOfMinute => exact ruleEndOfMinute_responses v s

@[simp] theorem fallback_responses (s : State) : (fallback s).responses = s.responses := by
  cases h : s.everPublished
  · rw [fallback_of_never_published h]
  · rw [fallback_of_published h, updateRead_responses]

@[simp] theorem minuteBoundary_responses (s : State) : (minuteBoundary s).responses = s.responses := by
  cases h : s.validTimeInfo
  · rw [minuteBoundary_of_invalid h, startMinute_responses, fallback_responses]
  · rw [minuteBoundary_of_valid h, startMinute_responses, publish_responses]

@[simp] theorem classStep_responses (q : Position) (c : Cls) (s : State) : (classStep q c s).responses = s.responses := by
  cases c with
  | invalid => exact raiseFault_responses .bitState s
  | marker => simp [classStep, markerStep]
  | one | zero => exact positionRule_responses q _ s

@[simp] theorem secondStep_responses (c : Cls) (s : State) : (secondStep c s).responses = s.responses := by
  unfold secondStep
  cases position s with
  | notSynced => rfl
  | undefined => exact raiseFault_responses .undefinedState s
  | _ => exact classStep_responses _ c s

@[simp] theorem closeSecond_responses (s : State) : (closeSecond s).responses = s.responses := by
  unfold closeSecond
  dsimp only
  split
  · rw [secondStep_responses, startSecond_responses]
  · rfl

@[simp] theorem measureInterval_responses (d : Nat) (s : State) : (measureInterval d s).responses = s.responses := by
  unfold measureInterval
  dsimp only
  split_ifs <;> rfl

/-! ## What each command delivers -/

/-- What `exec i` appends to the response port. -/
def delivered (i : Instr) (s : State) : List Response :=
  match i with
  | .rdrec => [.record (recordImage (readSlot s))]
  | .rdstat => [.byte (statusByte s.everPublished s.needsFallback s.fresh)]
  | .rdsec => [.byte (secondByte s.secCount)]
  | .dgflt => [.half (latchWord s.lastError s.errorDecoderState s.errorPosition)]
  | .dgcnt => [.half (counterWord s.errCount)]
  | .tick _ | .edge | .cnt | .ack _ | .reset => []

/-- Every event appends exactly what it delivers (30_encoding R114). -/
theorem exec_responses {i : Instr} {s t : State} (h : exec i s = .next t) : t.responses = s.responses ++ delivered i s := by
  cases i with
  | tick p =>
    rw [exec_tick, Host.Outcome.next.injEq] at h
    subst h
    split <;> simp [delivered]
  | edge =>
    cases h
    dsimp only
    split <;> simp [delivered]
  | cnt | ack | reset =>
    cases h
    exact (List.append_nil _).symm
  | rdrec | rdstat | rdsec | dgflt | dgcnt =>
    cases h
    rfl

/-- Settles O6: what a command appends to the response port (`exec_responses`) is nothing or one response of its width. -/
theorem responsesAsMapped : Obligations.ResponsesAsMapped := by
  intro i s
  obtain ⟨t, ht⟩ := exists_exec_eq_next i s
  refine ⟨t, ht, ?_⟩
  rw [exec_responses ht]
  cases i <;> simp [responseBits, delivered]

end Sys2Proof.Machine
end

section
/-! PROOFS. The pseudo-commands (30_encoding R116): WAIT k counts k (O11), and SEC c gives the decoder the class c (O21). -/

namespace Sys2Proof.Machine

/-- Running two lists one after the other. -/
theorem runCommands_append {is : List Instr} {s t : State} (h : runCommands is s = .next t) (js : List Instr) :
    runCommands (is ++ js) s = runCommands js t := by
  induction is generalizing s with
  | nil =>
    cases h
    rfl
  | cons i is ih =>
    obtain ⟨u, hu⟩ := exists_exec_eq_next i s
    rw [runCommands_cons hu] at h
    exact (runCommands_cons hu _).trans (ih h)

/-! ## WAIT (40_edge_sync R152) -/

theorem runCommands_waitCommands (k : Nat) (s : State) :
    runCommands (waitCommands k) s = .next { s with edgeCnt := (countEdgeTick s.cfg)^[k] s.edgeCnt } := by
  induction k generalizing s with
  | zero => rfl
  | succ k ih => exact ih { s with edgeCnt := countEdgeTick s.cfg s.edgeCnt }

theorem countEdgeTick_iterate_of_saturate {c : Config.Params} (h : c.edgeCntOvf = .saturate) (k : Nat) :
    (countEdgeTick c)^[k] 0 = min k c.edgeCntMax := by
  induction k with
  | zero => exact (Nat.zero_min _).symm
  | succ k ih =>
    rw [Function.iterate_succ_apply', ih]
    simp only [countEdgeTick, h]
    split <;> omega

theorem countEdgeTick_iterate_of_wrap {c : Config.Params} (h : c.edgeCntOvf = .wrap) (k : Nat) :
    (countEdgeTick c)^[k] 0 = k % (c.edgeCntMax + 1) := by
  induction k with
  | zero => exact (Nat.zero_mod _).symm
  | succ k ih =>
    have hlt : k % (c.edgeCntMax + 1) < c.edgeCntMax + 1 := Nat.mod_lt k (Nat.succ_pos _)
    rw [Function.iterate_succ_apply', ih, ← Nat.mod_add_mod]
    simp only [countEdgeTick, h]
    split
    case isTrue hmax => rw [hmax, Nat.mod_self]
    case isFalse hmax => exact (Nat.mod_eq_of_lt (by omega)).symm

/-- Settles O11: k CNTs count k times, and counting from 0 stays at the maximum or starts again after it. -/
theorem waitCounts : Obligations.WaitCounts := by
  intro k s h0
  rw [runCommands_waitCommands, h0]
  exact ⟨fun h => by rw [countEdgeTick_iterate_of_saturate h], fun h => by rw [countEdgeTick_iterate_of_wrap h]⟩

/-! ## SEC (41_bit_sampler R171-R174) -/

/-- Ticks at positions 0 to n-1 of a second, `f` the pin level at each. -/
def ticks (f : Nat → BitVec 1) (n : Nat) : List Instr := (List.range n).map (fun t => .tick (f t))

theorem ticks_succ (f : Nat → BitVec 1) (n : Nat) : ticks f (n + 1) = ticks f n ++ [.tick (f n)] := by
  simp [ticks, List.range_succ]

/-- The vote of a window over positions 0 to n-1, from a cleared counter (R172). -/
def voteOver (window : Nat → Bool) (f : Nat → BitVec 1) : Nat → BitVec 2
  | 0 => 0
  | n + 1 => if window n then voteOver window f n + pinVote (f n) else voteOver window f n

/-- A window that is over adds no more votes. -/
theorem voteOver_eq_of_le {window : Nat → Bool} (f : Nat → BitVec 1) {m n : Nat} (hmn : m ≤ n)
    (hout : ∀ t, m ≤ t → window t = false) : voteOver window f n = voteOver window f m := by
  induction n, hmn using Nat.le_induction with
  | base => rfl
  | succ n hmn ih =>
    rw [voteOver, hout n hmn, ih]
    rfl

theorem voteOver_inWindowA (f : Nat → BitVec 1) {n : Nat} (hn : 4 ≤ n) :
    voteOver inWindowA f n = pinVote (f 1) + pinVote (f 2) + pinVote (f 3) := by
  have hout (t : Nat) (ht : 4 ≤ t) : inWindowA t = false := decide_eq_false (by omega)
  rw [voteOver_eq_of_le f hn hout]
  simp [voteOver, inWindowA]

theorem voteOver_inWindowB (f : Nat → BitVec 1) {n : Nat} (hn : 11 ≤ n) :
    voteOver inWindowB f n = pinVote (f 8) + pinVote (f 9) + pinVote (f 10) := by
  have hout (t : Nat) (ht : 11 ≤ t) : inWindowB t = false := decide_eq_false (by omega)
  rw [voteOver_eq_of_le f hn hout]
  simp [voteOver, inWindowB]

/-- `s` at position `n` of a second whose ticks so far had the pin levels `f`; at position 0 it is `startSecond s`. -/
def midSecond (f : Nat → BitVec 1) (n : Nat) (s : State) : State :=
  { s with tickPos := n, voteA := voteOver inWindowA f n, voteB := voteOver inWindowB f n }

/-- Ticks that end before the boundary only vote (R177). -/
theorem runCommands_ticks_of_lt (f : Nat → BitVec 1) {n : Nat} {s : State} (hn : n < s.cfg.ticksPerSec) :
    runCommands (ticks f n) (startSecond s) = .next (midSecond f n s) := by
  induction n with
  | zero => rfl
  | succ n ih =>
    have hinside : (midSecond f n s).tickPos ≠ (midSecond f n s).cfg.ticksPerSec - 1 :=
      ne_of_lt (Nat.lt_sub_of_add_lt hn)
    rw [ticks_succ, runCommands_append (ih (by omega)), runCommands_cons (exec_tick _ _), if_neg hinside]
    rfl

theorem closeSecond_eq (s : State) :
    closeSecond s = if s.syncRun = 3 then secondStep (classify s.voteA s.voteB) (startSecond s) else startSecond s := by
  simp only [closeSecond, locked, beq_iff_eq]

/-- N ticks are a whole second: the last one's own sample is counted, and the state is at the start of the next (R175). -/
theorem runCommands_ticks_second (f : Nat → BitVec 1) {s : State} (hn : 1 ≤ s.cfg.ticksPerSec) :
    runCommands (ticks f s.cfg.ticksPerSec) (startSecond s) = .next
      (if s.syncRun = 3 then
        secondStep (classify (voteOver inWindowA f s.cfg.ticksPerSec) (voteOver inWindowB f s.cfg.ticksPerSec)) (startSecond s)
       else startSecond s) := by
  obtain ⟨n, hN⟩ := Nat.exists_eq_add_of_le' hn
  have hlast : (midSecond f n s).tickPos = (midSecond f n s).cfg.ticksPerSec - 1 := (Nat.sub_eq_of_eq_add hN).symm
  rw [hN, ticks_succ, runCommands_append (runCommands_ticks_of_lt f (by omega)), runCommands_cons (exec_tick _ _),
    if_pos hlast, closeSecond_eq]
  rfl

/-- A state at position 0 with clear votes is at the start of a second. -/
theorem startSecond_eq_self {s : State} (hpos : s.tickPos = 0) (ha : s.voteA = 0) (hb : s.voteB = 0) : startSecond s = s := by
  cases s
  cases hpos
  cases ha
  cases hb
  rfl

theorem classify_votes_levelAt (c : Cls) {n : Nat} (hn : 11 ≤ n) :
    classify (voteOver inWindowA (levelAt c) n) (voteOver inWindowB (levelAt c) n) = c := by
  rw [voteOver_inWindowA _ (by omega), voteOver_inWindowB _ hn]
  cases c <;> decide

/-- Settles O21: the N ticks of SEC c are one second whose votes classify as c. -/
theorem secPseudoCommandClassifies : Obligations.SecPseudoCommandClassifies := by
  intro c s hn hpos ha hb
  have hsecond := runCommands_ticks_second (levelAt c) (s := s) (by omega)
  rwa [classify_votes_levelAt c hn, startSecond_eq_self hpos ha hb] at hsecond

end Sys2Proof.Machine
end

section
/-! PROOFS. The assembly form of a command reads back as the command (30_encoding R115, O5). -/

namespace Sys2Proof.Machine

/-- A start of a line without `;` is kept. -/
theorem dropComment_append {line : List Char} (h : ';' ∉ line) (rest : List Char) :
    dropComment (line ++ rest) = line ++ dropComment rest := by
  induction line with
  | nil => rfl
  | cons c cs ih =>
    obtain ⟨hc, hcs⟩ := List.ne_and_not_mem_of_not_mem_cons h
    rw [List.cons_append, dropComment, if_neg (Ne.symm hc), ih hcs, List.cons_append]

/-- A comment after a line changes nothing. -/
theorem parseLine_append_comment {line : List Char} (h : ';' ∉ line) (comment : List Char) :
    parseLine (line ++ ';' :: comment) = parseLine line := by
  have hsame : dropComment (line ++ ';' :: comment) = dropComment (line ++ []) := by
    rw [dropComment_append h, dropComment_append h]
    rfl
  rw [parseLine, hsame, List.append_nil, parseLine]

/-- No assembly form holds a `;`. -/
theorem semicolon_notMem_assembly (i : Instr) : ';' ∉ assembly i := by
  cases i with
  | tick p => revert p; decide
  | ack m => revert m; decide
  | _ => decide

theorem parseLine_assembly (i : Instr) : parseLine (assembly i) = some i := by
  cases i with
  | tick p => revert p; decide
  | ack m => revert m; decide
  | _ => decide

/-- Settles O5: the literal lines are evaluated, and a comment is dropped before the words are read. -/
theorem assemblyReadsBack : Obligations.AssemblyReadsBack := by
  refine ⟨by decide, parseLine_assembly, by decide, fun i comment => ?_⟩
  rw [parseLine_append_comment (semicolon_notMem_assembly i), parseLine_assembly]

end Sys2Proof.Machine
end

section
/-! PROOFS. The edge synchronizer (40_edge_sync): what CNT does to the counter (O10), the acceptance windows (O12), the
four cases of EDGE (O14), and the lock after three accepted intervals (O15). -/

namespace Sys2Proof.Machine

/-! ## CNT (R152) -/

theorem exec_cnt (s : State) : exec .cnt s = .next { s with edgeCnt := countEdgeTick s.cfg s.edgeCnt } := rfl

theorem countEdgeTick_of_ne {c : Config.Params} {n : Nat} (h : n ≠ c.edgeCntMax) : countEdgeTick c n = n + 1 := if_neg h

theorem countEdgeTick_max_of_saturate {c : Config.Params} (h : c.edgeCntOvf = .saturate) :
    countEdgeTick c c.edgeCntMax = c.edgeCntMax := by
  simp only [countEdgeTick, h, if_true]

theorem countEdgeTick_max_of_wrap {c : Config.Params} (h : c.edgeCntOvf = .wrap) : countEdgeTick c c.edgeCntMax = 0 := by
  simp only [countEdgeTick, h, if_true]

/-- Settles O10: CNT writes `countEdgeTick`, whose three cases are the rule's. -/
theorem cntCounts : Obligations.CntCounts := by
  intro s
  rw [exec_cnt]
  refine ⟨fun hne => ?_, fun hmax hovf => ?_, fun hmax hovf => ?_⟩
  · rw [countEdgeTick_of_ne hne]
  · rw [hmax, countEdgeTick_max_of_saturate hovf]
  · rw [hmax, countEdgeTick_max_of_wrap hovf]

/-- Up to the maximum the overflow mode plays no part: k counts from 0 are k. -/
theorem countEdgeTick_iterate_of_le {c : Config.Params} {k : Nat} (hk : k ≤ c.edgeCntMax) : (countEdgeTick c)^[k] 0 = k := by
  induction k with
  | zero => rfl
  | succ k ih => rw [Function.iterate_succ_apply', ih (Nat.le_of_lt hk), countEdgeTick_of_ne (Nat.ne_of_lt hk)]

/-! ## The acceptance test (R154) -/

theorem accept_iff_abs (f d : Nat) :
    accept f d = true ↔ 16 * |(d : Int) - f| ≤ f ∨ 16 * |(d : Int) - 2 * f| ≤ 2 * f := by
  simp only [accept, Bool.or_eq_true, decide_eq_true_eq, Int.abs_eq_natAbs]
  omega

/-- Settles O12: the worked ranges are the closed windows (`accept_iff`) divided by 16, rounded inwards. -/
theorem acceptanceWindows : Obligations.AcceptanceWindows := by
  refine ⟨accept_iff_abs, accept_iff, fun d => ?_, fun d => ?_⟩ <;>
  · rw [accept_iff]
    omega

/-! ## EDGE (R155-R157) -/

theorem locked_eq_true {s : State} (h : s.syncRun = 3) : locked s = true := beq_iff_eq.mpr h

theorem exec_edge_of_locked {s : State} (hl : s.syncRun = 3) : exec .edge s = .next { s with edgeCnt := 0 } := by
  have hlocked : locked { s with edgeCnt := 0 } = true := locked_eq_true hl
  simp only [exec, execEdge, hlocked, if_true]

/-- `s` after an EDGE that ends an interval and leaves the run at `r`. -/
def intervalEnded (r : BitVec 2) (s : State) : State := { s with edgeCnt := 0, syncRun := r }

theorem intervalEnded_eq_self {s : State} {r : BitVec 2} (hrun : s.syncRun = r) (h0 : s.edgeCnt = 0) :
    intervalEnded r s = s := by
  cases s
  cases hrun
  cases h0
  rfl

/-- A run becomes complete exactly when it was at 2. -/
theorem locked_intervalEnded_succ (r : BitVec 2) (s : State) : locked (intervalEnded (r + 1) s) = decide (r = 2) := by
  have hcomplete : r + 1 = 3 ↔ r = 2 := by bv_omega
  rw [← decide_eq_decide.mpr hcomplete]
  rfl

/-- An accepted interval adds one to the run, and locks when that completes it. -/
theorem exec_edge_of_accepted {s : State} (hl : s.syncRun ≠ 3) (ha : accept s.cfg.edgeCntHz s.edgeCnt = true) :
    exec .edge s = .next
      (if s.syncRun = 2 then lock (intervalEnded (s.syncRun + 1) s) else intervalEnded (s.syncRun + 1) s) := by
  have hunlocked : locked { s with edgeCnt := 0 } = false := locked_eq_false hl
  have hlock := locked_intervalEnded_succ s.syncRun s
  simp only [intervalEnded] at hlock ⊢
  simp only [exec, execEdge, measureInterval, hunlocked, ha, hlock, Bool.false_eq_true, if_false, if_true, decide_eq_true_eq]

/-- Settles O14: one lemma for each of locked, rejected and accepted; a run of 2 tells the acceptance that locks. -/
theorem edgeMeasuresAndLocks : Obligations.EdgeMeasuresAndLocks := by
  refine fun s => ⟨exec_edge_of_locked, exec_edge_of_rejected, fun hl ha hrun => ?_, fun ha hrun => ?_⟩
  · rw [exec_edge_of_accepted hl ha, if_neg hrun]
    rfl
  · have hl : s.syncRun ≠ 3 := by
      rw [hrun]
      decide
    rw [exec_edge_of_accepted hl ha, if_pos hrun, hrun]
    rfl

/-! ## Three accepted intervals (R159) -/

/-- A wait of accepted length from a cleared counter, ended by an EDGE, is one accepted interval. -/
theorem runCommands_append_interval {is : List Instr} {s t : State} {r : BitVec 2} {k : Nat}
    (hrun : runCommands is s = .next (intervalEnded r t)) (hl : r ≠ 3) (hk : k ≤ t.cfg.edgeCntMax)
    (ha : accept t.cfg.edgeCntHz k = true) :
    runCommands (is ++ waitCommands k ++ [.edge]) s =
      .next (if r = 2 then lock (intervalEnded (r + 1) t) else intervalEnded (r + 1) t) := by
  have hcount : (countEdgeTick (intervalEnded r t).cfg)^[k] (intervalEnded r t).edgeCnt = k := countEdgeTick_iterate_of_le hk
  have hwait : runCommands (waitCommands k) (intervalEnded r t) = .next { intervalEnded r t with edgeCnt := k } := by
    rw [runCommands_waitCommands, hcount]
  rw [List.append_assoc, runCommands_append hrun, runCommands_append hwait,
    runCommands_cons (exec_edge_of_accepted (s := { intervalEnded r t with edgeCnt := k }) hl ha)]
  rfl

/-- Settles O15: the first two intervals take the run to 1 and 2, and the third finds it at 2 and locks. -/
theorem threeAcceptedIntervalsLock : Obligations.ThreeAcceptedIntervalsLock := by
  intro s a b c hsync h0 hka hkb hkc ha hb hc
  have hself : intervalEnded 0 s = s := intervalEnded_eq_self hsync h0
  have hstart : runCommands [] s = .next (intervalEnded 0 s) := congrArg Host.Outcome.next hself.symm
  have hone : runCommands (waitCommands a ++ [.edge]) s = .next (intervalEnded 1 s) :=
    runCommands_append_interval hstart (by decide) hka ha
  have htwo : runCommands (waitCommands a ++ [.edge] ++ waitCommands b ++ [.edge]) s = .next (intervalEnded 2 s) :=
    runCommands_append_interval hone (by decide) hkb hb
  rw [runCommands_append_interval htwo (by decide) hkc hc, ← hself]
  rfl

end Sys2Proof.Machine
end

section
/-! PROOFS. The bit sampler (41_bit_sampler): the classification is the pair of majorities (O17), what one TICK does (O16,
O18), the ticks before the boundary (O19), and a whole second with any pin levels (O20). -/

namespace Sys2Proof.Machine

/-! ## The classification (R173, R174) -/

/-- The code of a pair of majorities is the pair, A in bit 1 (R120). -/
theorem classCode_classOfMajorities_bits (a b : Bool) :
    (classCode (classOfMajorities a b)).getLsbD 1 = a ∧ (classCode (classOfMajorities a b)).getLsbD 0 = b := by
  cases a <;> cases b <;> decide

/-- Settles O17: `classify` codes the pair of majorities, and a majority is a vote of at least 2. -/
theorem classificationIsMajorityPair : Obligations.ClassificationIsMajorityPair :=
  fun va vb => classCode_classOfMajorities_bits (majority va) (majority vb)

theorem majority_eq_true {votes : BitVec 2} (h : 2 ≤ votes) : majority votes = true := decide_eq_true h

theorem majority_eq_false {votes : BitVec 2} (h : votes < 2) : majority votes = false :=
  decide_eq_false (BitVec.not_le.mpr h)

/-! ## One TICK (R172, R175, R176) -/

/-- Away from the boundary a TICK counts its sample and moves on. -/
theorem exec_tick_of_inside {s : State} (p : BitVec 1) (h : s.tickPos ≠ s.cfg.ticksPerSec - 1) :
    exec (.tick p) s = .next { countSample p s with tickPos := s.tickPos + 1 } := by
  rw [exec_tick, if_neg h]

/-- At the boundary an unlocked block only starts the next second. -/
theorem exec_tick_of_boundary_unlocked {s : State} (p : BitVec 1) (h : s.tickPos = s.cfg.ticksPerSec - 1)
    (hl : s.syncRun ≠ 3) : exec (.tick p) s = .next (startSecond s) := by
  rw [exec_tick, if_pos h, closeSecond_eq, countSample_syncRun, if_neg hl]
  rfl

/-- At the boundary a locked block runs the decoder on the majorities of the votes, the tick's own sample counted. -/
theorem exec_tick_of_boundary_locked {s : State} (p : BitVec 1) (h : s.tickPos = s.cfg.ticksPerSec - 1)
    (hl : s.syncRun = 3) {a b : Bool} (ha : majority (countSample p s).voteA = a)
    (hb : majority (countSample p s).voteB = b) :
    exec (.tick p) s = .next (secondStep (classOfMajorities a b) (startSecond s)) := by
  rw [exec_tick, if_pos h, closeSecond_eq, countSample_syncRun, if_pos hl, classify, ha, hb]
  rfl

/-- Vote A after a TICK, the window written out (R171, R172). -/
theorem countSample_voteA_eq (p : BitVec 1) (s : State) :
    (countSample p s).voteA =
      if s.tickPos = 1 ∨ s.tickPos = 2 ∨ s.tickPos = 3 then s.voteA + p.setWidth 2 else s.voteA := by
  simp only [countSample_voteA, inWindowA, decide_eq_true_eq, pinVote]

/-- Vote B after a TICK, the window written out (R171, R172). -/
theorem countSample_voteB_eq (p : BitVec 1) (s : State) :
    (countSample p s).voteB =
      if s.tickPos = 8 ∨ s.tickPos = 9 ∨ s.tickPos = 10 then s.voteB + p.setWidth 2 else s.voteB := by
  simp only [countSample_voteB, inWindowB, decide_eq_true_eq, pinVote]

/-- Settles O16: inside the second, at its boundary unlocked, and at its boundary locked with each pair of majorities. -/
theorem tickSamplesAndClassifies : Obligations.TickSamplesAndClassifies := by
  intro s p
  rw [← countSample_voteA_eq, ← countSample_voteB_eq]
  exact ⟨exec_tick_of_inside p, exec_tick_of_boundary_unlocked p,
    fun h hl ha hb => exec_tick_of_boundary_locked p h hl (majority_eq_false ha) (majority_eq_false hb),
    fun h hl ha hb => exec_tick_of_boundary_locked p h hl (majority_eq_false ha) (majority_eq_true hb),
    fun h hl ha hb => exec_tick_of_boundary_locked p h hl (majority_eq_true ha) (majority_eq_false hb),
    fun h hl ha hb => exec_tick_of_boundary_locked p h hl (majority_eq_true ha) (majority_eq_true hb)⟩

/-- Settles O18: at the boundary the next second starts, and elsewhere the sample is counted; both write only what the
statement lets move. -/
theorem unlockedTickKeepsTheRest : Obligations.UnlockedTickKeepsTheRest := by
  intro s p hl
  by_cases h : s.tickPos = s.cfg.ticksPerSec - 1
  · exact ⟨_, exec_tick_of_boundary_unlocked p h hl, rfl, fun _ => ⟨rfl, rfl, rfl⟩, fun hne => absurd h hne⟩
  · exact ⟨_, exec_tick_of_inside p h, rfl, fun heq => absurd heq h, fun _ => rfl⟩

/-! ## Ticks before the boundary (R175, R177) -/

/-- Settles O19, by induction on the ticks: the first is not at the boundary, so it only votes and moves on. -/
theorem noClassificationBeforeBoundary : Obligations.NoClassificationBeforeBoundary := by
  intro pins
  induction pins with
  | nil => exact fun s _ => ⟨s, rfl, rfl⟩
  | cons p ps ih =>
    intro s hlt
    rw [List.length_cons] at hlt
    have hinside : s.tickPos ≠ s.cfg.ticksPerSec - 1 := by omega
    obtain ⟨t, hrun, ht⟩ := ih { countSample p s with tickPos := s.tickPos + 1 } (by simp only [countSample_cfg]; omega)
    refine ⟨t, (runCommands_cons (exec_tick_of_inside p hinside) _).trans hrun, ?_⟩
    rw [ht, List.length_cons, Nat.add_right_comm, Nat.add_assoc]
    rfl

/-! ## A whole second (R171 to R176) -/

/-- A list of pin levels is the ticks of the levels it holds, position by position. -/
theorem ticks_getD_length (pins : List (BitVec 1)) :
    ticks (fun t => pins.getD t 0) pins.length = pins.map .tick := by
  refine List.ext_getElem (by simp [ticks]) fun t _ ht => ?_
  rw [List.length_map] at ht
  simp [ticks, ht]

/-- The majority of three samples is at least two of them high: their sum does not overflow a vote counter (R173). -/
theorem majority_pinVotes (x y z : BitVec 1) :
    majority (pinVote x + pinVote y + pinVote z) = decide (2 ≤ x.toNat + y.toNat + z.toNat) := by
  rw [majority, decide_eq_decide]
  simp only [pinVote]
  bv_omega

/-- The pins at 1, 2, 3 and at 8, 9, 10 decide the class of a second, and no other pin does (R171, R173, R174). -/
theorem classify_votes_eq (f : Nat → BitVec 1) {n : Nat} (hn : 11 ≤ n) :
    classify (voteOver inWindowA f n) (voteOver inWindowB f n) =
      classOfMajorities (decide (2 ≤ (f 1).toNat + (f 2).toNat + (f 3).toNat))
        (decide (2 ≤ (f 8).toNat + (f 9).toNat + (f 10).toNat)) := by
  rw [voteOver_inWindowA f (by omega), voteOver_inWindowB f hn, classify, majority_pinVotes, majority_pinVotes]

/-- Settles O20: the N ticks are one second (`runCommands_ticks_second`), and its votes are those of the six pins. -/
theorem oneSecondIsOneDecoderStep : Obligations.OneSecondIsOneDecoderStep := by
  intro pins s hlen hn hpos ha hb
  have hsecond := runCommands_ticks_second (fun t => pins.getD t 0) (s := s) (by omega)
  rwa [classify_votes_eq _ hn, startSecond_eq_self hpos ha hb, ← hlen, ticks_getD_length] at hsecond

end Sys2Proof.Machine
end

section
/-! PROOFS. The decoder position by position (42_decoder): the checks before the position (O22), the MARKER before position
59 (O23), what each position's rule makes of a state (O24 to O30) and the leap-second extension (O33). -/

namespace Sys2Proof.Machine

/-! ## The position of a state (30_encoding R125) -/

theorem position_eq_notSynced_iff {s : State} : position s = .notSynced ↔ s.dstate = 63 := by
  have unsynced : ∀ d : BitVec 6, positionOfNat d.toNat = .notSynced ↔ d = 63 := by decide
  exact unsynced s.dstate

theorem position_eq_undefined_iff {s : State} : position s = .undefined ↔ 60 ≤ s.dstate ∧ s.dstate ≤ 62 := by
  have unnamed : ∀ d : BitVec 6, positionOfNat d.toNat = .undefined ↔ 60 ≤ d ∧ d ≤ 62 := by decide
  exact unnamed s.dstate

theorem position_eq_endOfMinute_iff {s : State} : position s = .endOfMinute ↔ s.dstate = 59 := by
  have last : ∀ d : BitVec 6, positionOfNat d.toNat = .endOfMinute ↔ d = 59 := by decide
  exact last s.dstate

theorem position_eq_cet_iff {s : State} : position s = .cet ↔ s.dstate = 18 := by
  have flag : ∀ d : BitVec 6, positionOfNat d.toNat = .cet ↔ d = 18 := by decide
  exact flag s.dstate

theorem position_eq_parityDate_iff {s : State} : position s = .parityDate ↔ s.dstate = 58 := by
  have verdict : ∀ d : BitVec 6, positionOfNat d.toNat = .parityDate ↔ d = 58 := by decide
  exact verdict s.dstate

/-! ## The checks before the position (R191 to R194) -/

theorem secondStep_of_notSynced {s : State} (c : Cls) (h : s.dstate = 63) : secondStep c s = s := by
  simp only [secondStep, position_eq_notSynced_iff.mpr h]

theorem secondStep_of_undefined {s : State} (c : Cls) (h1 : 60 ≤ s.dstate) (h2 : s.dstate ≤ 62) :
    secondStep c s = raiseFault .undefinedState s := by
  simp only [secondStep, position_eq_undefined_iff.mpr ⟨h1, h2⟩]

theorem secondStep_of_le {s : State} (c : Cls) (h : s.dstate ≤ 59) : secondStep c s = classStep (position s) c s := by
  refine secondStep_of_named c rfl (fun hq => ?_) (fun hq => ?_)
  · have := position_eq_notSynced_iff.mp hq
    bv_omega
  · have := position_eq_undefined_iff.mp hq
    bv_omega

/-- In a named position a logical bit runs the position's rule (R18, R191). -/
theorem secondStep_bitClass {s : State} {d : BitVec 6} (v : Bool) (hd : s.dstate = d) (h : d ≤ 59) :
    secondStep (bitClass v) s = positionRule (positionOfNat d.toNat) v s := by
  subst hd
  rw [secondStep_of_le _ h]
  cases v <;> rfl

/-- Settles O22: one lemma for each of the three checks, and what a forcing fault writes. -/
theorem checksBeforeThePosition : Obligations.ChecksBeforeThePosition := by
  intro c s
  have hundefined (h : 60 ≤ s.dstate ∧ s.dstate ≤ 62) := secondStep_of_undefined c h.1 h.2
  have hinvalid (h : s.dstate ≤ 59 ∧ c = .invalid) : secondStep c s = raiseFault .bitState s := by
    obtain ⟨hd, rfl⟩ := h
    exact secondStep_of_le .invalid hd
  refine ⟨secondStep_of_notSynced c, fun h1 h2 => ⟨hundefined ⟨h1, h2⟩, fun hempty => ?_⟩,
    fun h hc => hinvalid ⟨h, hc⟩, fun h => ?_⟩
  · rw [hundefined ⟨h1, h2⟩, raiseFault_errorDecoderState, if_pos hempty]
  · obtain h | h := h
    · rw [hundefined h]
      simp [forcesNotSynced]
    · rw [hinvalid h]
      simp [forcesNotSynced]

/-! ## The MARKER before position 59 (R195, 43_publish R241, R245) -/

theorem readSlot_raiseFault (k : ErrorKind) (s : State) : readSlot (raiseFault k s) = readSlot s := by
  rw [readSlot, raiseFault_readIndex]
  exact slot_congr (raiseFault_slot0 k s) (raiseFault_slot1 k s) s.readIndex

/-- The boundary of an invalid minute, written out. -/
theorem minuteBoundary_eq_of_invalid {s : State} (h : s.validTimeInfo = false) :
    minuteBoundary s =
      { (if s.everPublished then setSlot s.readIndex (advanceMinute (readSlot s)) s else s) with
        needsFallback := true
        dstate := 0
        secCount := 0
        minuteFault := false
        validTimeInfo := false
        leapExt := false } := by
  rw [minuteBoundary_of_invalid h]
  cases hp : s.everPublished
  · rw [fallback_of_never_published hp]
    rfl
  · rw [fallback_of_published hp, if_pos rfl, updateRead]
    unfold setSlot
    split <;> rfl

/-- Settles O23: the fault makes the minute invalid, and keeps the read slot and whether one was published. -/
theorem earlyMarkerFallsBack : Obligations.EarlyMarkerFallsBack := by
  intro s h
  have hearly : position s ≠ .endOfMinute := by
    rw [Ne, position_eq_endOfMinute_iff]
    bv_omega
  have hstep : secondStep .marker s = minuteBoundary (raiseFault .notEndOfMinute s) := by
    rw [secondStep_of_le .marker (by bv_omega), classStep, markerStep, decide_eq_true hearly, raiseWhen_true]
  rw [hstep, minuteBoundary_eq_of_invalid (raiseFault_validTimeInfo _ _), raiseFault_everPublished, raiseFault_readIndex,
    readSlot_raiseFault]

/-! ## The rules of the positions, written out -/

/-- `Advance()` from a known position and second. -/
theorem advance_eq {s : State} {d c : BitVec 6} (hd : s.dstate = d) (hc : s.secCount = c) :
    advance s = { s with dstate := d + 1, secCount := c + 1 } := by
  subst hd hc
  rfl

@[simp] theorem raiseWhen_secCount (bad : Bool) (k : ErrorKind) (s : State) : (raiseWhen bad k s).secCount = s.secCount := by
  cases bad
  · rfl
  · exact raiseFault_secCount k s

/-- The kinds that `raiseWhen` is used with leave the position. -/
theorem raiseWhen_dstate {k : ErrorKind} (hk : forcesNotSynced k = false) (bad : Bool) (s : State) :
    (raiseWhen bad k s).dstate = s.dstate := by
  cases bad
  · rfl
  · simp [hk]

/-- A check, then going on. -/
theorem advance_raiseWhen {s : State} {d : BitVec 6} {k : ErrorKind} (hk : forcesNotSynced k = false) (hd : s.dstate = d)
    (bad : Bool) :
    advance (raiseWhen bad k s) = { raiseWhen bad k s with dstate := d + 1, secCount := s.secCount + 1 } :=
  advance_eq ((raiseWhen_dstate hk bad s).trans hd) (raiseWhen_secCount bad k s)

@[simp] theorem raiseWhen_writeIndex (bad : Bool) (k : ErrorKind) (s : State) :
    (raiseWhen bad k s).writeIndex = s.writeIndex := by
  cases bad
  · rfl
  · exact raiseFault_writeIndex k s

@[simp] theorem writeSlot_raiseWhen (bad : Bool) (k : ErrorKind) (s : State) :
    writeSlot (raiseWhen bad k s) = writeSlot s := by
  cases bad
  · rfl
  · rw [raiseWhen_true, writeSlot, raiseFault_writeIndex]
    exact slot_congr (raiseFault_slot0 k s) (raiseFault_slot1 k s) s.writeIndex

@[simp] theorem writeSlot_clearParity (s : State) : writeSlot (clearParity s) = writeSlot s := rfl

theorem setSlot_clearParity (i : BitVec 1) (r : TimeRecord) (s : State) :
    setSlot i r (clearParity s) = clearParity (setSlot i r s) := by
  unfold setSlot
  split <;> rfl

theorem raiseWhen_beq (k : ErrorKind) (a b : Bool) (s : State) :
    raiseWhen (a == b) k s = if a = b then raiseFault k s else s := by
  by_cases h : a = b <;> simp [raiseWhen, h]

theorem ruleCet_eq (v : Bool) (s : State) :
    ruleCet v s =
      advance (raiseWhen (v == (writeSlot s).isCest) .cetCest (updateWrite (fun r => { r with isCet := v }) s)) := by
  simp only [ruleCet, writeSlot_updateWrite]

/-- Settles O24: START_OF_MINUTE is a check that raises on ONE, then the advance; an ignored position is the advance. -/
theorem startAndIgnoredPositions : Obligations.StartAndIgnoredPositions := by
  refine fun v s => ⟨fun h => ?_, fun h1 h2 => ?_⟩
  · rw [secondStep_bitClass v h (by decide)]
    exact advance_raiseWhen rfl h v
  · have ignored : ∀ d : BitVec 6, 1 ≤ d → d ≤ 15 → positionOfNat d.toNat = .ignore := by decide
    rw [secondStep_bitClass v rfl (by bv_omega), ignored _ h1 h2]
    rfl

/-- Rewriting the write slot, then going on. -/
theorem advance_updateWrite {s : State} {d : BitVec 6} (hd : s.dstate = d) (f : TimeRecord → TimeRecord) :
    advance (updateWrite f s) =
      { setSlot s.writeIndex (f (writeSlot s)) s with dstate := d + 1, secCount := s.secCount + 1 } :=
  advance_eq ((updateWrite_dstate f s).trans hd) (updateWrite_secCount f s)

/-- Settles O25: three positions only rewrite the write slot; CET checks the record it has just written. -/
theorem flagPositionsAssign : Obligations.FlagPositionsAssign := by
  refine fun v s => ⟨fun h => ?_, fun h => ?_, fun h => ?_, fun h => ?_⟩ <;>
    rw [secondStep_bitClass v h (by decide)]
  · exact advance_updateWrite h _
  · exact advance_updateWrite h _
  · refine (ruleCet_eq v s).trans ?_
    rw [advance_raiseWhen rfl ((updateWrite_dstate _ s).trans h), raiseWhen_beq, updateWrite_secCount]
    rfl
  · exact advance_updateWrite h _

/-- The check, the parity reset, the rewrite of the write slot and the advance, which START_TIME and two of the parity
positions have in common (D40). -/
theorem advance_updateWrite_clearParity_raiseWhen {s : State} {d : BitVec 6} {k : ErrorKind} (hd : s.dstate = d)
    (hk : forcesNotSynced k = false) (bad : Bool) (f : TimeRecord → TimeRecord) :
    advance (updateWrite f (clearParity (raiseWhen bad k s))) =
      { setSlot s.writeIndex (f (writeSlot s)) (raiseWhen bad k s) with
        parity := false
        dstate := d + 1
        secCount := s.secCount + 1 } := by
  have hwrite : updateWrite f (clearParity (raiseWhen bad k s)) =
      clearParity (setSlot s.writeIndex (f (writeSlot s)) (raiseWhen bad k s)) := by
    rw [updateWrite, writeSlot_clearParity, writeSlot_raiseWhen, clearParity_writeIndex, raiseWhen_writeIndex,
      setSlot_clearParity]
  rw [hwrite]
  exact advance_eq (by rw [clearParity_dstate, setSlot_dstate, raiseWhen_dstate hk, hd])
    (by rw [clearParity_secCount, setSlot_secCount, raiseWhen_secCount])

/-- Settles O26: a ZERO raises; the reset and the zeroing follow in both cases. -/
theorem startTimePosition : Obligations.StartTimePosition := by
  intro v s h
  rw [secondStep_bitClass v h (by decide)]
  refine (advance_updateWrite_clearParity_raiseWhen h rfl (!v) _).trans ?_
  cases v <;> rfl

theorem raiseWhen_parityFails (k : ErrorKind) (v : Bool) (s : State) :
    raiseWhen (parityFails s.parity v) k s = if s.parity = v then s else raiseFault k s := by
  by_cases h : s.parity = v <;> simp [raiseWhen, parityFails, h]

/-- Settles O29: a bit that differs from the parity raises; the reset and the zeroing follow in both cases. -/
theorem parityPositionsCheckAndZero : Obligations.ParityPositionsCheckAndZero := by
  refine fun v s => ⟨fun h => ?_, fun h => ?_⟩ <;> rw [secondStep_bitClass v h (by decide), ← raiseWhen_parityFails]
  · exact advance_updateWrite_clearParity_raiseWhen h rfl _ _
  · exact advance_updateWrite_clearParity_raiseWhen h rfl _ _

/-- The verdict on the minute: valid exactly when no fault was raised in it (R219). -/
def giveVerdict (s : State) : State := { s with validTimeInfo := !s.minuteFault }

theorem ruleParityDate_eq (v : Bool) (s : State) :
    ruleParityDate v s = advance (giveVerdict (clearParity (raiseWhen (parityFails s.parity v) .parityDate s))) := rfl

/-- Settles O30: the check raises on a mismatch, and the verdict that follows sees its fault. -/
theorem parityDateGivesVerdict : Obligations.ParityDateGivesVerdict := by
  intro v s h
  have hrule : secondStep (bitClass v) s = ruleParityDate v s := secondStep_bitClass v h (by decide)
  rw [hrule, ruleParityDate_eq, raiseWhen_parityFails]
  refine ⟨fun hv => ?_, fun hv => ?_⟩
  · rw [if_pos hv]
    exact advance_eq (s := giveVerdict (clearParity s)) h rfl
  · rw [if_neg hv]
    exact advance_eq (s := giveVerdict (clearParity (raiseFault .parityDate s))) h rfl

/-- A data position: the bit into the parity and into the record, then on (R206). -/
theorem dataBit_eq (f : TimeRecord → TimeRecord) (v : Bool) (s : State) :
    dataBit f v s =
      { setSlot s.writeIndex (f (writeSlot s)) s with
        parity := s.parity.xor v, dstate := s.dstate + 1, secCount := s.secCount + 1 } := by
  unfold dataBit advance updateWrite setSlot
  split <;> rfl

theorem orBit_eq (c : Byte) (j : Nat) (v : Bool) : orBit c j v = c ||| (if v then 1#8 <<< j else 0) := by
  cases v <;> simp [orBit]

/-! Which digit a bit of a two-digit field goes to (R206). -/

section
variable {k : Nat} (v : Bool) (r : TimeRecord)

theorem minuteBit_ones (h : k < 4) : minuteBit k v r = { r with minO := orBit r.minO k v } := if_pos h
theorem minuteBit_tens : minuteBit (4 + k) v r = { r with minT := orBit r.minT k v } := by simp [minuteBit]
theorem hourBit_ones (h : k < 4) : hourBit k v r = { r with hourO := orBit r.hourO k v } := if_pos h
theorem hourBit_tens : hourBit (4 + k) v r = { r with hourT := orBit r.hourT k v } := by simp [hourBit]
theorem dayBit_ones (h : k < 4) : dayBit k v r = { r with dayO := orBit r.dayO k v } := if_pos h
theorem dayBit_tens : dayBit (4 + k) v r = { r with dayT := orBit r.dayT k v } := by simp [dayBit]
theorem monthBit_ones (h : k < 4) : monthBit k v r = { r with monthO := orBit r.monthO k v } := if_pos h
theorem monthBit_tens : monthBit 4 v r = { r with monthT := orBit r.monthT 0 v } := rfl
theorem yearBit_ones (h : k < 4) : yearBit k v r = { r with yearO := orBit r.yearO k v } := if_pos h
theorem yearBit_tens : yearBit (4 + k) v r = { r with yearT := orBit r.yearT k v } := by simp [yearBit]

end

/-! The data positions: bit `k` of a field is at the field's first position plus `k` (R206). -/

section
variable {k : Nat} {s : State} (v : Bool)

/-- A field of `size` data positions from `first` on: bit `k` runs the rule of its position, which is a data bit's. -/
theorem secondStep_field {first size : Nat} {q : Nat → Position} {f : Nat → Bool → TimeRecord → TimeRecord}
    (hq : ∀ k < size, positionOfNat (first + k) = q k) (hrule : ∀ k v s, positionRule (q k) v s = dataBit (f k v) v s)
    (hlast : first + size ≤ 59) (hd : s.dstate.toNat = first + k) (hk : k < size) :
    secondStep (bitClass v) s = dataBit (f k v) v s := by
  rw [secondStep_bitClass v rfl (show s.dstate.toNat ≤ 59 by omega), hd, hq k hk, hrule]

theorem secondStep_minute (hd : s.dstate.toNat = 21 + k) (hk : k < 7) :
    secondStep (bitClass v) s = dataBit (minuteBit k v) v s :=
  secondStep_field v (q := .minute) (by decide) (fun _ _ _ => rfl) (by decide) hd hk

theorem secondStep_hour (hd : s.dstate.toNat = 29 + k) (hk : k < 6) :
    secondStep (bitClass v) s = dataBit (hourBit k v) v s :=
  secondStep_field v (q := .hour) (by decide) (fun _ _ _ => rfl) (by decide) hd hk

theorem secondStep_day (hd : s.dstate.toNat = 36 + k) (hk : k < 6) :
    secondStep (bitClass v) s = dataBit (dayBit k v) v s :=
  secondStep_field v (q := .day) (by decide) (fun _ _ _ => rfl) (by decide) hd hk

theorem secondStep_weekday (hd : s.dstate.toNat = 42 + k) (hk : k < 3) :
    secondStep (bitClass v) s = dataBit (weekdayBit k v) v s :=
  secondStep_field v (q := .weekday) (by decide) (fun _ _ _ => rfl) (by decide) hd hk

theorem secondStep_month (hd : s.dstate.toNat = 45 + k) (hk : k < 5) :
    secondStep (bitClass v) s = dataBit (monthBit k v) v s :=
  secondStep_field v (q := .month) (by decide) (fun _ _ _ => rfl) (by decide) hd hk

theorem secondStep_year (hd : s.dstate.toNat = 50 + k) (hk : k < 8) :
    secondStep (bitClass v) s = dataBit (yearBit k v) v s :=
  secondStep_field v (q := .year) (by decide) (fun _ _ _ => rfl) (by decide) hd hk

end

/-- Settles O27: bit `k` of the tens digit is bit `4 + k` of its field. -/
theorem timeBitsAccumulate : Obligations.TimeBitsAccumulate := by
  intro v k s
  simp only [← orBit_eq]
  refine ⟨fun hk h => ?_, fun hk h => ?_, fun hk h => ?_, fun hk h => ?_⟩
  · rw [secondStep_minute v h (by omega), dataBit_eq, minuteBit_ones v _ hk]
  · rw [secondStep_minute v (h.trans (Nat.add_assoc 21 4 k)) (by omega), dataBit_eq, minuteBit_tens]
  · rw [secondStep_hour v h (by omega), dataBit_eq, hourBit_ones v _ hk]
  · rw [secondStep_hour v (h.trans (Nat.add_assoc 29 4 k)) (by omega), dataBit_eq, hourBit_tens]

/-- Settles O28, in the same way; the month's tens digit is bit 4 of its field. -/
theorem dateBitsAccumulate : Obligations.DateBitsAccumulate := by
  intro v k s
  simp only [← orBit_eq]
  refine ⟨fun hk h => ?_, fun hk h => ?_, fun hk h => ?_, fun hk h => ?_, fun h => ?_, fun hk h => ?_, fun hk h => ?_⟩
  · rw [secondStep_day v h (by omega), dataBit_eq, dayBit_ones v _ hk]
  · rw [secondStep_day v (h.trans (Nat.add_assoc 36 4 k)) (by omega), dataBit_eq, dayBit_tens]
  · rw [secondStep_weekday v h hk, dataBit_eq, weekdayBit]
  · rw [secondStep_month v h (by omega), dataBit_eq, monthBit_ones v _ hk]
  · rw [secondStep_month (k := 4) v h (by omega), dataBit_eq, monthBit_tens]
  · rw [secondStep_year v h (by omega), dataBit_eq, yearBit_ones v _ hk]
  · rw [secondStep_year v (h.trans (Nat.add_assoc 50 4 k)) (by omega), dataBit_eq, yearBit_tens]

/-- Settles O33: the three conditions of the extension, each taken away in turn. -/
theorem leapExtensionOrBadEnd : Obligations.LeapExtensionOrBadEnd := by
  intro s h
  have hzero : secondStep .zero s = ruleEndOfMinute false s := secondStep_bitClass false h (by decide)
  have hone : secondStep .one s = ruleEndOfMinute true s := secondStep_bitClass true h (by decide)
  rw [hzero, hone]
  refine ⟨fun hl he => ?_, fun hl hr => ?_, fun he => ?_, rfl⟩
  · have hannounced : leapAnnounced s = true := by simpa [leapAnnounced] using hl
    simp [ruleEndOfMinute, hannounced, he]
  · simp [ruleEndOfMinute, leapAnnounced, hl, hr]
  · simp [ruleEndOfMinute, he]

end Sys2Proof.Machine
end

section
/-! PROOFS. The invariant of the block (42_decoder R230, the ranges of 10_state): it holds at reset (O35), each shared
operation keeps it, and so every step does (O34). -/

namespace Sys2Proof.Machine

variable {s : State}

theorem Inv.counters (h : Inv s) : countersInRange s := by
  obtain ⟨_, _, _, _, _, hcounters, _⟩ := h
  exact hcounters

/-! ## Operations that write nothing the invariant speaks of -/

theorem inv_setSlot (i : BitVec 1) (r : TimeRecord) (h : Inv s) : Inv (setSlot i r s) := by
  unfold setSlot
  split <;> exact h

theorem inv_fallback (h : Inv s) : Inv (fallback s) := by
  cases hp : s.everPublished
  · rw [fallback_of_never_published hp]
    exact h
  · rw [fallback_of_published hp]
    exact inv_setSlot (s := { s with needsFallback := true }) _ _ h

/-! ## The two places where the position starts again (R230.1 to R230.3) -/

theorem synced_of_notSynced (hrun : s.syncRun ≠ 3) (hd : s.dstate = 63) :
    lockAgrees s ∧ positionNamed s ∧ secondFollows s := by
  refine ⟨iff_of_false hrun (not_not_intro hd), .inr hd, fun hle => ?_⟩
  bv_omega

theorem synced_of_startOfMinute (hrun : s.syncRun = 3) (hd : s.dstate = 0) (hsec : s.secCount = 0)
    (hleap : s.leapExt = false) : lockAgrees s ∧ positionNamed s ∧ secondFollows s := by
  refine ⟨iff_of_true hrun ?_, .inl ?_, fun _ => ⟨fun _ => hsec.trans hd.symm, fun he => ?_⟩⟩
  · bv_omega
  · bv_omega
  · exact absurd (hleap.symm.trans he) Bool.false_ne_true

/-! ## Taking a decode fault (60_exceptions R301) -/

/-- The codes of the kinds are 1 to 10 (R300). -/
theorem errorCode_le (k : ErrorKind) : errorCode k ≤ 10 := by cases k <;> decide

/-- The counter saturates at its maximum, so counting a fault stays in range (R301 (b)). -/
theorem countedFault_le {n m : BitVec 16} (h : n ≤ m) : (if n < m then n + 1 else n) ≤ m := by
  split
  · bv_omega
  · exact h

theorem latchCoherent_raiseFault (k : ErrorKind) (h : latchCoherent s) : latchCoherent (raiseFault k s) := by
  simp only [latchCoherent, raiseFault_lastError, raiseFault_errorDecoderState, raiseFault_errorPosition]
  split
  · exact ⟨errorCode_le k, fun h0 => absurd h0 (errorCode_ne_zero k)⟩
  · exact h

theorem verdictSound_of_invalid (h : s.validTimeInfo = false) : verdictSound s := fun hv => by simp [h] at hv

theorem inv_raiseFault (k : ErrorKind) (h : Inv s) : Inv (raiseFault k s) := by
  obtain ⟨hlock, hpos, hsec, hroles, _, ⟨hwf, hedge, htick, hsec60, herr⟩, hvotes, hlatch, hfresh⟩ := h
  have hsynced : lockAgrees (raiseFault k s) ∧ positionNamed (raiseFault k s) ∧ secondFollows (raiseFault k s) := by
    cases hk : forcesNotSynced k
    · rw [raiseFault_of_not_forces hk]
      exact ⟨hlock, hpos, hsec⟩
    · rw [raiseFault_of_forces hk]
      exact synced_of_notSynced (by simp) rfl
  have hverdict := verdictSound_of_invalid (raiseFault_validTimeInfo k s)
  have hlatched := latchCoherent_raiseFault k hlatch
  rw [raiseFault_writes] at hsynced hverdict hlatched ⊢
  obtain ⟨hlock', hpos', hsec'⟩ := hsynced
  exact ⟨hlock', hpos', hsec', hroles, hverdict, ⟨hwf, hedge, htick, hsec60, countedFault_le herr⟩, hvotes,
    hlatched, hfresh⟩

theorem inv_raiseWhen (bad : Bool) (k : ErrorKind) (h : Inv s) : Inv (raiseWhen bad k s) := by
  cases bad
  · exact h
  · exact inv_raiseFault k h

/-! ## Going on, and starting again (42_decoder R229, 43_publish R241) -/

/-- Before position 59 the block is locked, the second counter follows the position and there is no verdict yet (R230). -/
theorem Inv.before_end (h : Inv s) (hd : s.dstate ≤ 58) :
    s.syncRun = 3 ∧ s.leapExt = false ∧ s.secCount = s.dstate ∧ s.validTimeInfo = false := by
  obtain ⟨hlock, _, hsec, _, hverdict, _⟩ := h
  obtain ⟨hsame, hext⟩ := hsec (by bv_omega)
  have hleap : s.leapExt = false := by
    rw [← Bool.not_eq_true]
    intro he
    have := (hext he).2
    bv_omega
  have hvalid : s.validTimeInfo = false := by
    rw [← Bool.not_eq_true]
    intro hv
    have := (hverdict hv).2
    bv_omega
  exact ⟨hlock.mpr (by bv_omega), hleap, hsame hleap, hvalid⟩

/-- Going on from a position before 59, with a verdict that may be given at 58 and only in a minute without a fault. -/
theorem inv_advance_verdict (h : Inv s) (hd : s.dstate ≤ 58) {valid : Bool}
    (hvalid : valid = true → s.minuteFault = false ∧ s.dstate = 58) : Inv { advance s with validTimeInfo := valid } := by
  obtain ⟨hrun, hleap, hsame, _⟩ := h.before_end hd
  obtain ⟨_, _, _, hroles, _, ⟨hwf, hedge, htick, _, herr⟩, hvotes, hlatch, hfresh⟩ := h
  have hnext : s.dstate + 1 ≤ 59 := by bv_omega
  have hsec : s.secCount + 1 = s.dstate + 1 := congrArg (· + 1) hsame
  refine ⟨iff_of_true hrun fun h63 => ?_, .inl hnext, fun _ => ⟨fun _ => hsec, fun he => ?_⟩, hroles, fun hv => ?_,
    ⟨hwf, hedge, htick, ?_, herr⟩, hvotes, hlatch, hfresh⟩
  · have : s.dstate + 1 = 63 := h63
    bv_omega
  · exact absurd (hleap.symm.trans he) Bool.false_ne_true
  · obtain ⟨hfault, hd58⟩ := hvalid hv
    exact ⟨hfault, congrArg (· + 1) hd58⟩
  · change s.secCount + 1 ≤ 60
    bv_omega

theorem inv_advance (h : Inv s) (hd : s.dstate ≤ 58) : Inv (advance s) :=
  inv_advance_verdict h hd fun hv => absurd (hv.symm.trans (h.before_end hd).2.2.2) (by decide)

theorem inv_startMinute (h : Inv s) (hrun : s.syncRun = 3) : Inv (startMinute s) := by
  obtain ⟨_, _, _, hroles, _, ⟨hwf, hedge, htick, _, herr⟩, hvotes, hlatch, hfresh⟩ := h
  obtain ⟨hlock, hpos, hsec⟩ := synced_of_startOfMinute (s := startMinute s) hrun rfl rfl rfl
  exact ⟨hlock, hpos, hsec, hroles, nofun, ⟨hwf, hedge, htick, by simp, herr⟩, hvotes, hlatch, hfresh⟩

theorem inv_publish (h : Inv s) : Inv (publish s) := by
  obtain ⟨hlock, hpos, hsec, hroles, hverdict, hcounters, hvotes, hlatch, _⟩ := h
  exact ⟨hlock, hpos, hsec, hroles.symm, hverdict, hcounters, hvotes, hlatch, fun _ => rfl⟩

/-! ## The decoder step (42_decoder R191) -/

theorem fallback_syncRun (s : State) : (fallback s).syncRun = s.syncRun := by
  cases h : s.everPublished
  · rw [fallback_of_never_published h]
  · rw [fallback_of_published h, updateRead_syncRun]

theorem inv_minuteBoundary (h : Inv s) (hrun : s.syncRun = 3) : Inv (minuteBoundary s) := by
  cases hv : s.validTimeInfo
  · rw [minuteBoundary_of_invalid hv]
    exact inv_startMinute (inv_fallback h) ((fallback_syncRun s).trans hrun)
  · rw [minuteBoundary_of_valid hv]
    exact inv_startMinute (inv_publish h) hrun

theorem inv_markerStep (q : Position) (h : Inv s) (hrun : s.syncRun = 3) : Inv (markerStep q s) := by
  refine inv_minuteBoundary (inv_raiseWhen _ _ h) ?_
  cases decide (q ≠ .endOfMinute) <;> exact hrun

theorem inv_ruleEndOfMinute (v : Bool) (h : Inv s) (hd : s.dstate = 59) : Inv (ruleEndOfMinute v s) := by
  unfold ruleEndOfMinute
  split
  · obtain ⟨hlock, hpos, _, hroles, hverdict, ⟨hwf, hedge, htick, _, herr⟩, hvotes, hlatch, hfresh⟩ := h
    exact ⟨hlock, hpos, fun _ => ⟨nofun, fun _ => ⟨rfl, hd⟩⟩, hroles, hverdict, ⟨hwf, hedge, htick, by simp, herr⟩,
      hvotes, hlatch, hfresh⟩
  · exact inv_raiseFault _ h

/-- The invariant, and the position the rule runs for. -/
structure InvAt (d : BitVec 6) (s : State) : Prop where
  inv : Inv s
  dstate_eq : s.dstate = d

namespace InvAt

variable {d : BitVec 6}

theorem then_raiseWhen {k : ErrorKind} (h : InvAt d s) (bad : Bool) (hk : forcesNotSynced k = false) :
    InvAt d (raiseWhen bad k s) :=
  ⟨inv_raiseWhen bad k h.inv, (raiseWhen_dstate hk bad s).trans h.dstate_eq⟩

theorem then_updateWrite (h : InvAt d s) (f : TimeRecord → TimeRecord) : InvAt d (updateWrite f s) :=
  ⟨inv_setSlot _ _ h.inv, (updateWrite_dstate f s).trans h.dstate_eq⟩

/-- The parity accumulator is no part of the invariant. -/
theorem then_parity (h : InvAt d s) (p : Bool) : InvAt d { s with parity := p } := ⟨h.inv, h.dstate_eq⟩

theorem then_advance (h : InvAt d s) (hd : d ≤ 58) : Inv (advance s) :=
  inv_advance h.inv (h.dstate_eq ▸ hd)

/-- PARITY_DATE gives the verdict as it goes on to position 59 (R219). -/
theorem then_verdict (h : InvAt 58 s) : Inv (advance (giveVerdict s)) :=
  inv_advance_verdict h.inv (by rw [h.dstate_eq]; decide) fun hv => ⟨Bool.not_eq_true' _ ▸ hv, h.dstate_eq⟩

end InvAt

theorem inv_positionRule (v : Bool) (h : Inv s) (hle : s.dstate ≤ 59) : Inv (positionRule (position s) v s) := by
  have hat : InvAt s.dstate s := ⟨h, rfl⟩
  have hbefore (hq : position s ≠ .endOfMinute) : s.dstate ≤ 58 := by
    rw [Ne, position_eq_endOfMinute_iff] at hq
    bv_omega
  cases hq : position s <;> rw [hq] at hbefore
  case notSynced | undefined => exact h
  case startOfMinute => exact (hat.then_raiseWhen _ rfl).then_advance (hbefore nofun)
  case ignore => exact hat.then_advance (hbefore nofun)
  case newTz | cest | leap => exact (hat.then_updateWrite _).then_advance (hbefore nofun)
  case cet => exact ((hat.then_updateWrite _).then_raiseWhen _ rfl).then_advance (hbefore nofun)
  case startTime | parityMinute | parityHour =>
    exact (((hat.then_raiseWhen _ rfl).then_parity false).then_updateWrite _).then_advance (hbefore nofun)
  case minute | hour | day | weekday | month | year =>
    exact ((hat.then_parity _).then_updateWrite _).then_advance (hbefore nofun)
  case parityDate =>
    rw [position_eq_parityDate_iff.mp hq] at hat
    exact ((hat.then_raiseWhen _ rfl).then_parity false).then_verdict
  case endOfMinute => exact inv_ruleEndOfMinute v h (position_eq_endOfMinute_iff.mp hq)

theorem inv_classStep (c : Cls) (h : Inv s) (hd : s.dstate ≤ 59) : Inv (classStep (position s) c s) := by
  cases c with
  | invalid => exact inv_raiseFault _ h
  | marker => exact inv_markerStep _ h (h.1.mpr (by bv_omega))
  | one | zero => exact inv_positionRule _ h hd

theorem inv_secondStep (c : Cls) (h : Inv s) : Inv (secondStep c s) := by
  obtain ⟨_, hstep⟩ | ⟨_, hstep⟩ | ⟨h1, h2, hstep⟩ := secondStep_cases c s <;> rw [hstep]
  · exact h
  · exact inv_raiseFault _ h
  · exact inv_classStep c h (dstate_le_of_position h1 h2)

/-! ## The events -/

/-- One sample more in a window that begins at `a` and is three ticks long (R37, R38). -/
theorem vote_le_of_counted {v : BitVec 2} {t a : Nat} {inside : Bool} (p : BitVec 1) (hv : v.toNat ≤ min 3 (t - a))
    (hw : inside = true → a ≤ t ∧ t ≤ a + 2) : (if inside then v + pinVote p else v).toNat ≤ min 3 (t + 1 - a) := by
  cases inside
  · simp only [Bool.false_eq_true, if_false]
    omega
  · obtain ⟨h1, h2⟩ := hw rfl
    have hp : (pinVote p).toNat ≤ 1 := by
      rw [pinVote]
      bv_omega
    rw [if_pos rfl, BitVec.toNat_add]
    omega

theorem inv_tick_inside (p : BitVec 1) (h : Inv s) (hpos : s.tickPos ≠ s.cfg.ticksPerSec - 1) :
    Inv { countSample p s with tickPos := s.tickPos + 1 } := by
  obtain ⟨hlock, hpos, hsec, hroles, hverdict, ⟨hwf, hedge, htick, hsec60, herr⟩, ⟨hva, hvb⟩, hlatch, hfresh⟩ := h
  have hnext : s.tickPos + 1 < s.cfg.ticksPerSec := by omega
  refine ⟨hlock, hpos, hsec, hroles, hverdict, ⟨hwf, hedge, hnext, hsec60, herr⟩, ⟨?_, ?_⟩, hlatch, hfresh⟩
  · refine vote_le_of_counted p hva fun hw => ?_
    have := of_decide_eq_true hw
    omega
  · refine vote_le_of_counted p hvb fun hw => ?_
    have := of_decide_eq_true hw
    omega

theorem inv_startSecond (h : Inv s) : Inv (startSecond s) := by
  obtain ⟨hlock, hpos, hsec, hroles, hverdict, ⟨hwf, hedge, htick, hsec60, herr⟩, _, hlatch, hfresh⟩ := h
  exact ⟨hlock, hpos, hsec, hroles, hverdict, ⟨hwf, hedge, Nat.zero_lt_of_lt htick, hsec60, herr⟩,
    ⟨Nat.zero_le _, Nat.zero_le _⟩, hlatch, hfresh⟩

/-- The sample of the last tick counts for the classification only: the votes are cleared with the second. -/
theorem inv_closeSecond (p : BitVec 1) (h : Inv s) : Inv (closeSecond (countSample p s)) := by
  have hstart : Inv (startSecond (countSample p s)) := inv_startSecond (s := s) h
  rw [closeSecond_eq]
  split
  · exact inv_secondStep _ hstart
  · exact hstart

theorem countEdgeTick_le {c : Config.Params} {n : Nat} (h : n ≤ c.edgeCntMax) : countEdgeTick c n ≤ c.edgeCntMax := by
  unfold countEdgeTick
  split
  · split <;> omega
  · omega

theorem inv_edgeCnt (h : Inv s) {n : Nat} (hn : n ≤ s.cfg.edgeCntMax) : Inv { s with edgeCnt := n } := by
  obtain ⟨hlock, hpos, hsec, hroles, hverdict, ⟨hwf, _, htick, hsec60, herr⟩, hvotes, hlatch, hfresh⟩ := h
  exact ⟨hlock, hpos, hsec, hroles, hverdict, ⟨hwf, hn, htick, hsec60, herr⟩, hvotes, hlatch, hfresh⟩

/-- While unlocked a run of intervals that does not lock leaves the decoder at NOT_SYNCED (40_edge_sync R155). -/
theorem inv_intervalEnded (h : Inv s) (hl : s.syncRun ≠ 3) {r : BitVec 2} (hr : r ≠ 3) : Inv (intervalEnded r s) := by
  have hd : s.dstate = 63 := not_not.mp fun hne => hl (h.1.mpr hne)
  obtain ⟨hlock, hpos, hsec⟩ := synced_of_notSynced (s := intervalEnded r s) hr hd
  obtain ⟨_, _, _, hroles, hverdict, ⟨hwf, _, htick, hsec60, herr⟩, hvotes, hlatch, hfresh⟩ := h
  exact ⟨hlock, hpos, hsec, hroles, hverdict, ⟨hwf, Nat.zero_le _, htick, hsec60, herr⟩, hvotes, hlatch, hfresh⟩

/-- The lock starts the second at the anchor and the decoder at START_OF_MINUTE (R157, R10). -/
theorem inv_lock_intervalEnded (h : Inv s) : Inv (lock (intervalEnded 3 s)) := by
  obtain ⟨hlock, hpos, hsec⟩ := synced_of_startOfMinute (s := lock (intervalEnded 3 s)) rfl rfl rfl rfl
  obtain ⟨_, _, _, hroles, _, ⟨hwf, _, _, _, herr⟩, _, hlatch, hfresh⟩ := h
  have hanchor : s.cfg.anchorOffset < s.cfg.ticksPerSec := by
    obtain ⟨hn, _, _, ha, _⟩ := hwf
    omega
  exact ⟨hlock, hpos, hsec, hroles, nofun, ⟨hwf, Nat.zero_le _, hanchor, by simp, herr⟩,
    ⟨Nat.zero_le _, Nat.zero_le _⟩, hlatch, hfresh⟩

theorem inv_execEdge {t : State} (h : Inv s) (hexec : exec .edge s = .next t) : Inv t := by
  by_cases hl : s.syncRun = 3
  · rw [exec_edge_of_locked hl] at hexec
    cases hexec
    exact inv_edgeCnt h (Nat.zero_le _)
  cases ha : accept s.cfg.edgeCntHz s.edgeCnt
  · rw [exec_edge_of_rejected hl ha] at hexec
    cases hexec
    exact inv_intervalEnded h hl (by decide)
  · rw [exec_edge_of_accepted hl ha] at hexec
    cases hexec
    split
    case isTrue h2 =>
      rw [h2]
      exact inv_lock_intervalEnded h
    case isFalse h2 => exact inv_intervalEnded h hl (by bv_omega)

theorem inv_execTick (p : BitVec 1) {t : State} (h : Inv s) (hexec : exec (.tick p) s = .next t) : Inv t := by
  rw [exec_tick] at hexec
  cases hexec
  split
  case isTrue => exact inv_closeSecond p h
  case isFalse hpos => exact inv_tick_inside p h hpos

theorem inv_execAck (m : BitVec 2) {t : State} (h : Inv s) (hexec : exec (.ack m) s = .next t) : Inv t := by
  have hfalls := (execAck_frame hexec).fresh_only_falls
  cases hexec
  obtain ⟨hlock, hpos, hsec, hroles, hverdict, hcounters, hvotes, hlatch, hfresh⟩ := h
  exact ⟨hlock, hpos, hsec, hroles, hverdict, hcounters, hvotes, hlatch, fun hf => hfresh (hfalls hf)⟩

theorem inv_clearLatch (h : Inv s) : Inv (clearLatch s) := by
  obtain ⟨hlock, hpos, hsec, hroles, hverdict, hcounters, hvotes, _, hfresh⟩ := h
  exact ⟨hlock, hpos, hsec, hroles, hverdict, hcounters, hvotes, ⟨by simp, fun _ => ⟨rfl, rfl⟩⟩, hfresh⟩

theorem inv_errCount_zero (h : Inv s) : Inv { s with errCount := 0 } := by
  obtain ⟨hlock, hpos, hsec, hroles, hverdict, ⟨hwf, hedge, htick, hsec60, _⟩, hvotes, hlatch, hfresh⟩ := h
  exact ⟨hlock, hpos, hsec, hroles, hverdict, ⟨hwf, hedge, htick, hsec60, Nat.zero_le _⟩, hvotes, hlatch, hfresh⟩

theorem inv_resetBlock (hwf : s.cfg.wf) : Inv (resetBlock s) := by
  obtain ⟨hlock, hpos, hsec⟩ := synced_of_notSynced (s := resetBlock s) (by simp) rfl
  have htick : 0 < s.cfg.ticksPerSec := Nat.zero_lt_of_lt hwf.1
  exact ⟨hlock, hpos, hsec, by simp, nofun, ⟨hwf, Nat.zero_le _, htick, by simp, Nat.zero_le _⟩,
    ⟨Nat.zero_le _, Nat.zero_le _⟩, ⟨by simp, fun _ => ⟨rfl, rfl⟩⟩, nofun⟩

/-- Settles O35: State.reset is what RESET leaves, with legal parameters. -/
theorem invariantAtReset : Obligations.InvariantAtReset :=
  inv_resetBlock (s := { State.reset with resetDraws := 0 }) (by decide)

/-- Every event keeps the invariant; a response is no part of it. -/
theorem inv_exec {i : Instr} {t : State} (h : Inv s) (hexec : exec i s = .next t) : Inv t := by
  cases i with
  | tick p => exact inv_execTick p h hexec
  | edge => exact inv_execEdge h hexec
  | cnt =>
    cases hexec
    obtain ⟨_, hedge, _⟩ := h.counters
    exact inv_edgeCnt h (countEdgeTick_le hedge)
  | rdrec | rdstat | rdsec =>
    cases hexec
    exact h
  | ack m => exact inv_execAck m h hexec
  | dgflt =>
    cases hexec
    exact inv_clearLatch (s := s) h
  | dgcnt =>
    cases hexec
    exact inv_errCount_zero (s := s) h
  | reset =>
    cases hexec
    obtain ⟨hwf, _⟩ := h.counters
    exact inv_resetBlock hwf

/-- Settles O34: a step waits, or is the event of the command it takes; the words waiting are no part of the invariant. -/
theorem stepKeepsInvariant : Obligations.StepKeepsInvariant := by
  intro s t h hstep
  obtain ⟨_, hwait⟩ | ⟨w, rest, i, _, _, hrun⟩ | ⟨w, rest, why, _, _, hrefused⟩ := step_cases s
  · rw [hwait] at hstep
    cases hstep
    exact h
  · exact inv_exec (s := { s with commands := rest }) h (hrun.symm.trans hstep)
  · rw [hrefused] at hstep
    cases hstep

end Sys2Proof.Machine
end

section
/-! PROOFS. What a slot held before this minute wrote it, or after RESET, never reaches the consumer (42_decoder R231,
10_state R46, 70_reset R335, O36): every operation is either blind to the slots (`withoutSlots`) or writes the fields of the
write slot one by one (`recordRule`), each before it is read. -/

namespace Sys2Proof.Machine

/-! ## What a position's rule does to the record -/

/-- The write slot after the rule of position `q` for the bit `v`. -/
def recordRule (q : Position) (v : Bool) (r : TimeRecord) : TimeRecord :=
  match q with
  | .newTz => { r with tzChange := v }
  | .cest => { r with isCest := v }
  | .cet => { r with isCet := v }
  | .leap => { r with leapPending := v }
  | .startTime => { r with minT := digitChar 0, minO := digitChar 0 }
  | .minute k => minuteBit k v r
  | .parityMinute => { r with hourT := digitChar 0, hourO := digitChar 0 }
  | .hour k => hourBit k v r
  | .parityHour => zeroDate r
  | .day k => dayBit k v r
  | .weekday k => weekdayBit k v r
  | .month k => monthBit k v r
  | .year k => yearBit k v r
  | .notSynced | .undefined | .startOfMinute | .ignore | .parityDate | .endOfMinute => r

@[simp] theorem writeSlot_advance (s : State) : writeSlot (advance s) = writeSlot s := rfl

theorem writeSlot_dataBit (f : TimeRecord → TimeRecord) (v : Bool) (s : State) :
    writeSlot (dataBit f v s) = f (writeSlot s) :=
  writeSlot_updateWrite f { s with parity := parityNext s.parity v }

theorem writeSlot_ruleEndOfMinute (v : Bool) (s : State) : writeSlot (ruleEndOfMinute v s) = writeSlot s := by
  unfold ruleEndOfMinute
  split
  · rfl
  · exact writeSlot_raiseWhen true .endOfMinute s

theorem writeSlot_positionRule (q : Position) (v : Bool) (s : State) :
    writeSlot (positionRule q v s) = recordRule q v (writeSlot s) := by
  cases q with
  | notSynced | undefined | ignore => rfl
  | startOfMinute => exact writeSlot_raiseWhen v .startOfMinute s
  | newTz | cest | leap => exact writeSlot_updateWrite _ s
  | cet => simp [positionRule, recordRule, ruleCet]
  | startTime | parityMinute | parityHour =>
    simp [positionRule, recordRule, ruleStartTime, ruleParityMinute, ruleParityHour]
  | minute | hour | day | weekday | month | year => exact writeSlot_dataBit _ v s
  | parityDate => exact writeSlot_raiseWhen (parityFails s.parity v) .parityDate s
  | endOfMinute => exact writeSlot_ruleEndOfMinute v s

/-! ## The fields this minute has written (R231) -/

variable {n : BitVec 6} {a b : TimeRecord}

/-- Each field of the new record comes from the same field of the old one, so fields that agreed agree. -/
theorem sameWritten_recordRule (q : Position) (v : Bool) (h : sameWritten n a b) :
    sameWritten n (recordRule q v a) (recordRule q v b) := by
  obtain ⟨htz, hcest, hcet, hleap, hmin, hhour, hdate⟩ := h
  cases q with
  | notSynced | undefined | startOfMinute | ignore | parityDate | endOfMinute =>
    exact ⟨htz, hcest, hcet, hleap, hmin, hhour, hdate⟩
  | newTz => exact ⟨fun _ => rfl, hcest, hcet, hleap, hmin, hhour, hdate⟩
  | cest => exact ⟨htz, fun _ => rfl, hcet, hleap, hmin, hhour, hdate⟩
  | cet => exact ⟨htz, hcest, fun _ => rfl, hleap, hmin, hhour, hdate⟩
  | leap => exact ⟨htz, hcest, hcet, fun _ => rfl, hmin, hhour, hdate⟩
  | startTime => exact ⟨htz, hcest, hcet, hleap, fun _ => ⟨rfl, rfl⟩, hhour, hdate⟩
  | parityMinute => exact ⟨htz, hcest, hcet, hleap, hmin, fun _ => ⟨rfl, rfl⟩, hdate⟩
  | parityHour => exact ⟨htz, hcest, hcet, hleap, hmin, hhour, fun _ => ⟨rfl, rfl, rfl, rfl, rfl, rfl, rfl⟩⟩
  | minute k =>
    simp only [recordRule, minuteBit]
    split <;> exact ⟨htz, hcest, hcet, hleap, fun hn => by simp [hmin hn], hhour, hdate⟩
  | hour k =>
    simp only [recordRule, hourBit]
    split <;> exact ⟨htz, hcest, hcet, hleap, hmin, fun hn => by simp [hhour hn], hdate⟩
  | day k =>
    simp only [recordRule, dayBit]
    split <;> exact ⟨htz, hcest, hcet, hleap, hmin, hhour, fun hn => by simp [hdate hn]⟩
  | weekday k => exact ⟨htz, hcest, hcet, hleap, hmin, hhour, fun hn => by simp [recordRule, weekdayBit, hdate hn]⟩
  | month k =>
    simp only [recordRule, monthBit]
    split <;> exact ⟨htz, hcest, hcet, hleap, hmin, hhour, fun hn => by simp [hdate hn]⟩
  | year k =>
    simp only [recordRule, yearBit]
    split <;> exact ⟨htz, hcest, hcet, hleap, hmin, hhour, fun hn => by simp [hdate hn]⟩

/-- One position on: what had been written by position `n`, and what `n` writes. -/
theorem of_written_or_new {c : BitVec 6} {P : Prop} (hc : c ≤ 58) (hn : n ≤ 58) (hwritten : c + 1 ≤ n → P)
    (hnew : n = c → P) : c + 1 ≤ n + 1 → P := by
  intro h
  by_cases heq : n = c
  · exact hnew heq
  · exact hwritten (by bv_omega)

/-- The rule of a position assigns the fields that are counted as written from the next position on. -/
theorem sameWritten_succ (v : Bool) (hn : n ≤ 58) (h : sameWritten n a b) :
    sameWritten (n + 1) (recordRule (positionOfNat n.toNat) v a) (recordRule (positionOfNat n.toNat) v b) := by
  obtain ⟨htz, hcest, hcet, hleap, hmin, hhour, hdate⟩ := sameWritten_recordRule (positionOfNat n.toNat) v h
  refine ⟨of_written_or_new (c := 16) (by decide) hn htz ?_, of_written_or_new (c := 17) (by decide) hn hcest ?_,
    of_written_or_new (c := 18) (by decide) hn hcet ?_, of_written_or_new (c := 19) (by decide) hn hleap ?_,
    of_written_or_new (c := 20) (by decide) hn hmin ?_, of_written_or_new (c := 28) (by decide) hn hhour ?_,
    of_written_or_new (c := 35) (by decide) hn hdate ?_⟩ <;>
  · rintro rfl
    simp [positionOfNat, recordRule, zeroDate]

/-- At END_OF_MINUTE the whole record has been written. -/
theorem eq_of_sameWritten_end (h : sameWritten 59 a b) : a = b := by
  obtain ⟨htz, hcest, hcet, hleap, hmin, hhour, hdate⟩ := h
  obtain ⟨⟨hmt, hmo⟩, hht, hho⟩ := And.intro (hmin (by decide)) (hhour (by decide))
  obtain ⟨hdt, hdo, hwd, hmot, hmoo, hyt, hyo⟩ := hdate (by decide)
  cases a
  cases b
  simp_all

/-! ## The state without its slots -/

/-- `s` with the slots and the count of their reset draws blanked out. -/
def withoutSlots (s : State) : State := { s with slot0 := default, slot1 := default, resetDraws := 0 }

theorem withoutSlots_eq_iff {s t : State} :
    withoutSlots s = withoutSlots t ↔ t = { s with slot0 := t.slot0, slot1 := t.slot1, resetDraws := t.resetDraws } := by
  constructor
  · intro h
    exact congrArg (fun u : State => { u with slot0 := t.slot0, slot1 := t.slot1, resetDraws := t.resetDraws }) h.symm
  · intro h
    exact (congrArg withoutSlots h).symm

section
variable (s : State)

@[simp] theorem withoutSlots_advance : withoutSlots (advance s) = advance (withoutSlots s) := rfl
@[simp] theorem withoutSlots_clearParity : withoutSlots (clearParity s) = clearParity (withoutSlots s) := rfl
@[simp] theorem withoutSlots_giveVerdict : withoutSlots (giveVerdict s) = giveVerdict (withoutSlots s) := rfl
@[simp] theorem withoutSlots_startMinute : withoutSlots (startMinute s) = startMinute (withoutSlots s) := rfl
@[simp] theorem withoutSlots_publish : withoutSlots (publish s) = publish (withoutSlots s) := rfl
@[simp] theorem withoutSlots_startSecond : withoutSlots (startSecond s) = startSecond (withoutSlots s) := rfl
@[simp] theorem withoutSlots_countSample (p : BitVec 1) :
    withoutSlots (countSample p s) = countSample p (withoutSlots s) := rfl

@[simp] theorem withoutSlots_raiseFault (k : ErrorKind) :
    withoutSlots (raiseFault k s) = raiseFault k (withoutSlots s) := by
  rw [raiseFault_writes, raiseFault_writes]
  rfl

@[simp] theorem withoutSlots_raiseWhen (bad : Bool) (k : ErrorKind) :
    withoutSlots (raiseWhen bad k s) = raiseWhen bad k (withoutSlots s) := by
  cases bad
  · rfl
  · exact withoutSlots_raiseFault s k

@[simp] theorem withoutSlots_setSlot (i : BitVec 1) (r : TimeRecord) : withoutSlots (setSlot i r s) = withoutSlots s := by
  unfold setSlot
  split <;> rfl

@[simp] theorem withoutSlots_updateWrite (f : TimeRecord → TimeRecord) : withoutSlots (updateWrite f s) = withoutSlots s :=
  withoutSlots_setSlot s _ _

theorem withoutSlots_fallback : withoutSlots (fallback s) = { withoutSlots s with needsFallback := true } := by
  cases h : s.everPublished
  · rw [fallback_of_never_published h]
    rfl
  · rw [fallback_of_published h]
    exact withoutSlots_setSlot { s with needsFallback := true } _ _

theorem withoutSlots_dataBit (f : TimeRecord → TimeRecord) (v : Bool) :
    withoutSlots (dataBit f v s) = advance { withoutSlots s with parity := parityNext s.parity v } :=
  congrArg advance (withoutSlots_updateWrite { s with parity := parityNext s.parity v } f)

end

variable {s t : State}

/-- What is read from no slot is the same in two states that differ in the slots. -/
theorem eq_of_withoutSlots_eq {α : Type} (f : State → α) (hf : ∀ u, f (withoutSlots u) = f u)
    (h : withoutSlots s = withoutSlots t) : f s = f t :=
  (hf s).symm.trans ((congrArg f h).trans (hf t))

/-- The rules read the record at two positions: CET reads the CEST flag, and END_OF_MINUTE the leap flag (R203, R224). -/
theorem withoutSlots_positionRule {q : Position} (v : Bool) (h : withoutSlots s = withoutSlots t)
    (hcest : q = .cet → (writeSlot s).isCest = (writeSlot t).isCest)
    (hleap : q = .endOfMinute → (writeSlot s).leapPending = (writeSlot t).leapPending) :
    withoutSlots (positionRule q v s) = withoutSlots (positionRule q v t) := by
  have hparity : s.parity = t.parity := eq_of_withoutSlots_eq State.parity (fun _ => rfl) h
  cases q with
  | notSynced | undefined => exact h
  | startOfMinute => simp [positionRule, ruleStartOfMinute, h]
  | ignore => exact congrArg advance h
  | newTz | cest | leap => simp [positionRule, ruleNewTz, ruleCest, ruleLeap, h]
  | cet => simp [positionRule, ruleCet_eq, h, hcest rfl]
  | startTime | parityMinute | parityHour =>
    simp [positionRule, ruleStartTime, ruleParityMinute, ruleParityHour, h, hparity]
  | minute | hour | day | weekday | month | year => simp [positionRule, withoutSlots_dataBit, h, hparity]
  | parityDate => simp [positionRule, ruleParityDate_eq, h, hparity]
  | endOfMinute =>
    have hannounced : leapAnnounced s = leapAnnounced t := by
      rw [leapAnnounced, leapAnnounced, hleap rfl, eq_of_withoutSlots_eq State.cfg (fun _ => rfl) h]
    have hext : s.leapExt = t.leapExt := eq_of_withoutSlots_eq State.leapExt (fun _ => rfl) h
    simp only [positionRule, ruleEndOfMinute, hannounced, hext]
    split
    · exact congrArg (fun u : State => { u with leapExt := true, secCount := 60 }) h
    · rw [withoutSlots_raiseFault, withoutSlots_raiseFault, h]

/-! ## The relation under the frame of an event -/

theorem withoutSlots_eq (h : sameToConsumer s t) : withoutSlots s = withoutSlots t := withoutSlots_eq_iff.mpr h.1

/-- An event that keeps the consumer's side in both states keeps the relation, if it keeps what this minute has written. -/
theorem sameToConsumer_of_frame {s' t' : State} (h : sameToConsumer s t) (hs : ConsumerFrame s s') (ht : ConsumerFrame t t')
    (hrest : withoutSlots s' = withoutSlots t')
    (hwritten : s'.dstate ≤ 59 → sameWritten s'.dstate (writeSlot s') (writeSlot t')) : sameToConsumer s' t' := by
  obtain ⟨heq, hroles, _, hread⟩ := h
  have hroles' : rolesDiffer t := by
    rw [heq]
    exact hroles
  refine ⟨withoutSlots_eq_iff.mp hrest, ?_, hwritten, fun hp => ?_⟩
  · rwa [rolesDiffer, hs.readIndex_eq, hs.writeIndex_eq]
  · rw [hs.readSlot_eq hroles, ht.readSlot_eq hroles']
    exact hread (hs.everPublished_eq.symm.trans hp)

/-- At the start of a minute nothing has been written. -/
theorem sameWritten_zero (a b : TimeRecord) : sameWritten 0 a b := by simp [sameWritten]

/-- The same, where the write slots stand still and the position does too or starts again. -/
theorem sameToConsumer_of_kept {s' t' : State} (h : sameToConsumer s t) (hs : ConsumerFrame s s') (ht : ConsumerFrame t t')
    (hrest : withoutSlots s' = withoutSlots t') (hws : writeSlot s' = writeSlot s) (hwt : writeSlot t' = writeSlot t)
    (hd : s'.dstate = s.dstate ∨ s'.dstate = 0 ∨ s'.dstate = 63) : sameToConsumer s' t' := by
  refine sameToConsumer_of_frame h hs ht hrest fun hle => ?_
  obtain ⟨_, _, hwritten, _⟩ := h
  rw [hws, hwt]
  obtain hd | hd | hd := hd <;> rw [hd] at hle ⊢
  · exact hwritten hle
  · exact sameWritten_zero _ _
  · exact absurd hle (by decide)

theorem sameToConsumer_raiseFault (k : ErrorKind) (h : sameToConsumer s t) :
    sameToConsumer (raiseFault k s) (raiseFault k t) := by
  have hrest := withoutSlots_eq h
  refine sameToConsumer_of_kept h ((ConsumerFrame.refl s).then_raiseFault k) ((ConsumerFrame.refl t).then_raiseFault k) ?_
    (writeSlot_raiseWhen true k s) (writeSlot_raiseWhen true k t) ?_
  · rw [withoutSlots_raiseFault, withoutSlots_raiseFault, hrest]
  · rw [raiseFault_dstate]
    cases forcesNotSynced k
    · exact .inl rfl
    · exact .inr (.inr rfl)

/-! ## The decoder step (42_decoder R191) -/

/-- The rules of the positions 0 to 58 end in the advance. -/
theorem dstate_positionRule {q : Position} (v : Bool) (hq : q ≠ .notSynced ∧ q ≠ .undefined ∧ q ≠ .endOfMinute) :
    (positionRule q v s).dstate = s.dstate + 1 := by
  obtain ⟨h63, h60, h59⟩ := hq
  cases q with
  | notSynced => exact absurd rfl h63
  | undefined => exact absurd rfl h60
  | startOfMinute => exact congrArg (· + 1) (raiseWhen_dstate rfl v s)
  | ignore => rfl
  | newTz | cest | leap => exact congrArg (· + 1) (updateWrite_dstate _ s)
  | cet => exact congrArg (· + 1) ((raiseWhen_dstate rfl _ _).trans (updateWrite_dstate _ s))
  | startTime | parityMinute | parityHour =>
    exact congrArg (· + 1) ((updateWrite_dstate _ _).trans (raiseWhen_dstate rfl _ s))
  | minute | hour | day | weekday | month | year =>
    exact congrArg (· + 1) (updateWrite_dstate _ { s with parity := parityNext s.parity v })
  | parityDate => exact congrArg (· + 1) (raiseWhen_dstate rfl (parityFails s.parity v) s)
  | endOfMinute => exact absurd rfl h59

theorem dstate_ruleEndOfMinute (v : Bool) (s : State) :
    (ruleEndOfMinute v s).dstate = s.dstate ∨ (ruleEndOfMinute v s).dstate = 63 := by
  unfold ruleEndOfMinute
  split
  · exact .inl rfl
  · exact .inr rfl

theorem sameToConsumer_positionRule {q : Position} (v : Bool) (hq : position s = q)
    (hnamed : q ≠ .notSynced ∧ q ≠ .undefined) (h : sameToConsumer s t) :
    sameToConsumer (positionRule q v s) (positionRule q v t) := by
  subst hq
  have hle : s.dstate ≤ 59 := dstate_le_of_position hnamed.1 hnamed.2
  obtain ⟨_, _, hwritten, _⟩ := id h
  obtain ⟨_, hcest, _, hleap, _⟩ := hwritten hle
  have hrest := withoutSlots_positionRule (q := position s) v (withoutSlots_eq h)
    (fun hq => hcest (by rw [position_eq_cet_iff.mp hq]; decide))
    (fun hq => hleap (by rw [position_eq_endOfMinute_iff.mp hq]; decide))
  have hs := positionRule_frame (position s) v s
  have ht := positionRule_frame (position s) v t
  by_cases hq : position s = .endOfMinute
  · rw [hq] at hs ht hrest ⊢
    exact sameToConsumer_of_kept h hs ht hrest (writeSlot_ruleEndOfMinute v s) (writeSlot_ruleEndOfMinute v t)
      ((dstate_ruleEndOfMinute v s).imp_right .inr)
  · refine sameToConsumer_of_frame h hs ht hrest fun _ => ?_
    have hle58 : s.dstate ≤ 58 := by
      rw [position_eq_endOfMinute_iff] at hq
      bv_omega
    rw [writeSlot_positionRule, writeSlot_positionRule, dstate_positionRule v ⟨hnamed.1, hnamed.2, hq⟩]
    exact sameWritten_succ v hle58 (hwritten hle)

/-- At the end of a valid minute the whole record is this minute's, and it becomes the one the consumer reads. -/
theorem sameToConsumer_publish (hd : s.dstate = 59) (h : sameToConsumer s t) :
    sameToConsumer (startMinute (publish s)) (startMinute (publish t)) := by
  have hrest := withoutSlots_eq h
  obtain ⟨_, hroles, hwritten, _⟩ := h
  have hsame : writeSlot s = writeSlot t := eq_of_sameWritten_end (hd ▸ hwritten (by rw [hd]; decide))
  refine ⟨withoutSlots_eq_iff.mp ?_, hroles.symm, fun _ => sameWritten_zero _ _, fun _ => hsame⟩
  rw [withoutSlots_startMinute, withoutSlots_startMinute, withoutSlots_publish, withoutSlots_publish, hrest]

/-- The fallback advances the read slot only after a publish, when the two agree in it. -/
theorem sameToConsumer_fallback (h : sameToConsumer s t) :
    sameToConsumer (startMinute (fallback s)) (startMinute (fallback t)) := by
  have hrest := withoutSlots_eq h
  obtain ⟨_, hroles, _, hread⟩ := h
  have hpublished : s.everPublished = t.everPublished := eq_of_withoutSlots_eq State.everPublished (fun _ => rfl) hrest
  have hrest' : withoutSlots (startMinute (fallback s)) = withoutSlots (startMinute (fallback t)) := by
    rw [withoutSlots_startMinute, withoutSlots_startMinute, withoutSlots_fallback, withoutSlots_fallback, hrest]
  refine ⟨withoutSlots_eq_iff.mp hrest', ?_⟩
  cases hp : s.everPublished
  · rw [fallback_of_never_published hp]
    exact ⟨hroles, fun _ => sameWritten_zero _ _, fun hp' => absurd (hp.symm.trans hp') Bool.false_ne_true⟩
  · rw [fallback_of_published hp, fallback_of_published (hpublished.symm.trans hp)]
    refine ⟨by simpa using hroles, fun _ => sameWritten_zero _ _, fun _ => ?_⟩
    calc readSlot (updateRead advanceMinute { s with needsFallback := true })
      _ = advanceMinute (readSlot s) := readSlot_updateRead _ _
      _ = advanceMinute (readSlot t) := by rw [hread hp]
      _ = readSlot (updateRead advanceMinute { t with needsFallback := true }) :=
        (readSlot_updateRead advanceMinute { t with needsFallback := true }).symm

theorem sameToConsumer_minuteBoundary (hvalid : s.validTimeInfo = true → s.dstate = 59) (h : sameToConsumer s t) :
    sameToConsumer (minuteBoundary s) (minuteBoundary t) := by
  have hsame : s.validTimeInfo = t.validTimeInfo :=
    eq_of_withoutSlots_eq State.validTimeInfo (fun _ => rfl) (withoutSlots_eq h)
  cases hv : s.validTimeInfo
  · rw [minuteBoundary_of_invalid hv, minuteBoundary_of_invalid (hsame.symm.trans hv)]
    exact sameToConsumer_fallback h
  · rw [minuteBoundary_of_valid hv, minuteBoundary_of_valid (hsame.symm.trans hv)]
    exact sameToConsumer_publish (hvalid hv) h

/-- A MARKER before position 59 is a fault, so only at 59 can the minute be valid. -/
theorem sameToConsumer_markerStep {q : Position} (hq : position s = q) (h : sameToConsumer s t) :
    sameToConsumer (markerStep q s) (markerStep q t) := by
  unfold markerStep
  by_cases hend : q = .endOfMinute
  · rw [decide_eq_false (not_not_intro hend)]
    exact sameToConsumer_minuteBoundary (fun _ => position_eq_endOfMinute_iff.mp (hq.trans hend)) h
  · rw [decide_eq_true hend]
    exact sameToConsumer_minuteBoundary (fun hv => by simp at hv) (sameToConsumer_raiseFault .notEndOfMinute h)

theorem sameToConsumer_classStep {q : Position} (c : Cls) (hq : position s = q)
    (hnamed : q ≠ .notSynced ∧ q ≠ .undefined) (h : sameToConsumer s t) :
    sameToConsumer (classStep q c s) (classStep q c t) := by
  cases c with
  | invalid => exact sameToConsumer_raiseFault .bitState h
  | marker => exact sameToConsumer_markerStep hq h
  | one | zero => exact sameToConsumer_positionRule _ hq hnamed h

theorem sameToConsumer_secondStep (c : Cls) (h : sameToConsumer s t) : sameToConsumer (secondStep c s) (secondStep c t) := by
  have hpos : position s = position t := eq_of_withoutSlots_eq position (fun _ => rfl) (withoutSlots_eq h)
  unfold secondStep
  rw [← hpos]
  cases hq : position s with
  | notSynced => exact h
  | undefined => exact sameToConsumer_raiseFault .undefinedState h
  | _ => exact sameToConsumer_classStep c hq ⟨nofun, nofun⟩ h

/-! ## The events -/

/-- The sample is counted and the second closed, before the decoder is asked. -/
theorem sameToConsumer_startSecond (p : BitVec 1) (h : sameToConsumer s t) :
    sameToConsumer (startSecond (countSample p s)) (startSecond (countSample p t)) := by
  have hrest := withoutSlots_eq h
  refine sameToConsumer_of_kept h (.of_consumerSide_eq rfl) (.of_consumerSide_eq rfl) ?_ rfl rfl (.inl rfl)
  rw [withoutSlots_startSecond, withoutSlots_startSecond, withoutSlots_countSample, withoutSlots_countSample, hrest]

theorem sameToConsumer_execTick {p : BitVec 1} {s' t' : State} (h : sameToConsumer s t) (hs : exec (.tick p) s = .next s')
    (ht : exec (.tick p) t = .next t') : sameToConsumer s' t' := by
  have hrest := withoutSlots_eq h
  have hcfg : s.cfg = t.cfg := eq_of_withoutSlots_eq State.cfg (fun _ => rfl) hrest
  have hpos : s.tickPos = t.tickPos := eq_of_withoutSlots_eq State.tickPos (fun _ => rfl) hrest
  have hrun : s.syncRun = t.syncRun := eq_of_withoutSlots_eq State.syncRun (fun _ => rfl) hrest
  have hclass : classify (countSample p s).voteA (countSample p s).voteB =
      classify (countSample p t).voteA (countSample p t).voteB :=
    eq_of_withoutSlots_eq (fun u => classify (countSample p u).voteA (countSample p u).voteB) (fun _ => rfl) hrest
  rw [exec_tick, Host.Outcome.next.injEq] at hs ht
  rw [← hcfg, ← hpos] at ht
  subst hs ht
  split
  case isTrue =>
    have hstart := sameToConsumer_startSecond p h
    rw [closeSecond_eq, closeSecond_eq, countSample_syncRun, countSample_syncRun, ← hrun, ← hclass]
    split
    · exact sameToConsumer_secondStep _ hstart
    · exact hstart
  case isFalse =>
    refine sameToConsumer_of_kept h (.of_consumerSide_eq rfl) (.of_consumerSide_eq rfl) ?_ rfl rfl (.inl rfl)
    exact congrArg (fun u : State => { countSample p u with tickPos := s.tickPos + 1 }) hrest

/-- The commands whose events read and write no slot. -/
def blindToSlots : Instr → Bool
  | .tick _ | .rdrec | .reset => false
  | .edge | .cnt | .rdstat | .rdsec | .ack _ | .dgflt | .dgcnt => true

/-- Such an event computes from everything but the slots, and not from them. -/
theorem exec_withoutSlots {i : Instr} (hi : blindToSlots i = true) {s' : State} (hs : exec i s = .next s') :
    exec i (withoutSlots s) = .next (withoutSlots s') := by
  cases i with
  | tick | rdrec | reset => exact absurd hi Bool.false_ne_true
  | edge =>
    cases hs
    simp only [exec, execEdge, measureInterval, apply_ite withoutSlots]
    rfl
  | cnt | rdstat | rdsec | ack | dgflt | dgcnt =>
    cases hs
    rfl

/-- Such an event keeps the consumer's side and the write slot, and moves the position only to lock. -/
theorem exec_frame_of_blind {i : Instr} (hi : blindToSlots i = true) {s' : State} (hs : exec i s = .next s') :
    ConsumerFrame s s' ∧ writeSlot s' = writeSlot s ∧ (s'.dstate = s.dstate ∨ s'.dstate = 0) := by
  cases i with
  | tick | rdrec | reset => exact absurd hi Bool.false_ne_true
  | edge =>
    refine ⟨execEdge_frame hs, ?_⟩
    cases hs
    dsimp only [measureInterval]
    split_ifs
    · exact ⟨rfl, .inl rfl⟩
    · exact ⟨rfl, .inr rfl⟩
    · exact ⟨rfl, .inl rfl⟩
    · exact ⟨rfl, .inl rfl⟩
  | ack =>
    refine ⟨execAck_frame hs, ?_⟩
    cases hs
    exact ⟨rfl, .inl rfl⟩
  | cnt | rdstat | rdsec | dgflt | dgcnt =>
    cases hs
    exact ⟨.of_consumerSide_eq rfl, rfl, .inl rfl⟩

theorem sameToConsumer_exec_of_blind {i : Instr} (hi : blindToSlots i = true) {s' t' : State} (h : sameToConsumer s t)
    (hs : exec i s = .next s') (ht : exec i t = .next t') : sameToConsumer s' t' := by
  obtain ⟨hframe, hws, hd⟩ := exec_frame_of_blind hi hs
  obtain ⟨hframe', hwt, _⟩ := exec_frame_of_blind hi ht
  have hrest : withoutSlots s' = withoutSlots t' := by
    have := exec_withoutSlots hi ht
    rw [← withoutSlots_eq h, exec_withoutSlots hi hs] at this
    exact Host.Outcome.next.inj this
  exact sameToConsumer_of_kept h hframe hframe' hrest hws hwt (hd.imp_right .inl)

/-- RDREC delivers the read slot, which is the same in both states once a record was published. -/
theorem sameToConsumer_execRdrec {s' t' : State} (hp : s.everPublished = true) (h : sameToConsumer s t)
    (hs : exec .rdrec s = .next s') (ht : exec .rdrec t = .next t') : sameToConsumer s' t' := by
  obtain ⟨_, _, _, hread⟩ := id h
  cases hs
  cases ht
  refine sameToConsumer_of_kept h (.of_consumerSide_eq rfl) (.of_consumerSide_eq rfl) ?_ rfl rfl (.inl rfl)
  rw [hread hp]
  exact congrArg (respond (.record (recordImage (readSlot t)))) (withoutSlots_eq h)

/-- After RESET the two differ at most in the slots, which nothing has written or published. -/
theorem sameToConsumer_execReset {s' t' : State} (h : sameToConsumer s t)
    (hs : exec .reset s = .next s') (ht : exec .reset t = .next t') : sameToConsumer s' t' := by
  cases hs
  cases ht
  refine ⟨withoutSlots_eq_iff.mp ?_, by simp, fun hle => absurd hle (by simp), nofun⟩
  exact eq_of_withoutSlots_eq (fun u => withoutSlots (resetBlock u)) (fun _ => rfl) (withoutSlots_eq h)

theorem sameToConsumer_exec {i : Instr} {s' t' : State} (hi : i = .rdrec → s.everPublished = true) (h : sameToConsumer s t)
    (hs : exec i s = .next s') (ht : exec i t = .next t') : sameToConsumer s' t' := by
  cases i with
  | tick p => exact sameToConsumer_execTick h hs ht
  | rdrec => exact sameToConsumer_execRdrec (hi rfl) h hs ht
  | reset => exact sameToConsumer_execReset h hs ht
  | edge | cnt | rdstat | rdsec | ack | dgflt | dgcnt => exact sameToConsumer_exec_of_blind rfl h hs ht

/-- Settles O36: every event keeps the relation, and two states in it have had the same responses. -/
theorem oldSlotContentsNeverSurface : Obligations.OldSlotContentsNeverSurface := by
  intro i s t h hi
  obtain ⟨s', hs⟩ := exists_exec_eq_next i s
  obtain ⟨t', ht⟩ := exists_exec_eq_next i t
  have hsame := sameToConsumer_exec hi h hs ht
  exact ⟨s', t', hs, ht, hsame, (eq_of_withoutSlots_eq State.responses (fun _ => rfl) (withoutSlots_eq hsame)).symm⟩

end Sys2Proof.Machine
end

section
/-! PROOFS. Runs of decoder steps over the bits of a telegram (42_decoder R216, R232): the state of the decoder in the middle
of a minute (`reading`), what a bit makes of it, and from that the parity groups (O31), the valid telegram (O37) and the
telegram with one bit flipped (O38). -/

namespace Sys2Proof.Machine

/-! ## Bits -/

theorem xorBits_append (xs ys : List Bool) : xorBits (xs ++ ys) = (xorBits xs).xor (xorBits ys) := by
  induction xs with
  | nil => simp [xorBits]
  | cons x xs ih => simp [xorBits, ih]

/-- The XOR of a list of bits is the parity of the number of its ones. -/
theorem xorBits_eq_true_iff (bs : List Bool) : xorBits bs = true ↔ bs.count true % 2 = 1 := by
  induction bs with
  | nil => simp [xorBits]
  | cons b bs ih =>
    cases b
    · simpa [xorBits] using ih
    · have hflip : xorBits (true :: bs) = true ↔ ¬ xorBits bs = true := by simp [xorBits]
      rw [hflip, ih, List.count_cons_self]
      omega

/-- A group passes exactly when its data bits and its parity bit together hold an even number of ones (R216). -/
theorem parityFails_iff_odd (bits : List Bool) (v : Bool) :
    parityFails (xorBits bits) v = true ↔ (bits ++ [v]).count true % 2 = 1 := by
  rw [← xorBits_eq_true_iff, xorBits_append]
  cases xorBits bits <;> cases v <;> decide

theorem parityFails_self (p : Bool) : parityFails p p = false := by cases p <;> rfl

/-! A flipped bit of two lists one after the other is in the first or in the second. -/

theorem flipBit_append_left {i : Nat} {xs : List Bool} (h : i < xs.length) (ys : List Bool) :
    flipBit i (xs ++ ys) = flipBit i xs ++ ys := by
  induction xs generalizing i with
  | nil => exact absurd h (Nat.not_lt_zero i)
  | cons x xs ih =>
    cases i with
    | zero => rfl
    | succ i => exact congrArg (x :: ·) (ih (Nat.lt_of_succ_lt_succ h))

theorem flipBit_append_right (i : Nat) (xs ys : List Bool) :
    flipBit (xs.length + i) (xs ++ ys) = xs ++ flipBit i ys := by
  induction xs with
  | nil => rw [List.length_nil, Nat.zero_add]; rfl
  | cons x xs ih =>
    rw [List.length_cons, Nat.add_right_comm]
    exact congrArg (x :: ·) ih

@[simp] theorem length_flipBit (i : Nat) (bs : List Bool) : (flipBit i bs).length = bs.length := List.length_modify _ _ _

theorem xorBits_flipBit {i : Nat} {bs : List Bool} (h : i < bs.length) : xorBits (flipBit i bs) = !xorBits bs := by
  induction bs generalizing i with
  | nil => exact absurd h (Nat.not_lt_zero i)
  | cons b bs ih =>
    cases i with
    | zero => simp [flipBit, xorBits]
    | succ i =>
      have hcons : flipBit (i + 1) (b :: bs) = b :: flipBit i bs := rfl
      rw [hcons, xorBits, xorBits, ih (Nat.lt_of_succ_lt_succ h), Bool.xor_not]

/-! ## The decoder in the middle of a minute -/

/-- `s` with the decoder at position `d` in second `c`, its parity at `p` and `r` in the write slot. -/
def reading (d c : BitVec 6) (p : Bool) (r : TimeRecord) (s : State) : State :=
  { setSlot s.writeIndex r s with dstate := d, secCount := c, parity := p }

theorem setSlot_slot (i : BitVec 1) (s : State) : setSlot i (slot i s) s = s := by
  unfold setSlot slot
  split <;> rfl

/-- Every state is reading. -/
theorem reading_self (s : State) : reading s.dstate s.secCount s.parity (writeSlot s) s = s := by
  rw [reading, writeSlot, setSlot_slot]

section
variable (d c d' c' : BitVec 6) (p : Bool) (r : TimeRecord) (s : State)

@[simp] theorem reading_dstate : (reading d c p r s).dstate = d := rfl
@[simp] theorem reading_parity : (reading d c p r s).parity = p := rfl

@[simp] theorem reading_writeIndex : (reading d c p r s).writeIndex = s.writeIndex := setSlot_writeIndex s.writeIndex r s

@[simp] theorem writeSlot_reading : writeSlot (reading d c p r s) = r := by
  rw [writeSlot, reading_writeIndex]
  exact slot_setSlot_same s.writeIndex r s

/-- `s` in second `c` at position `d`, where a fault finds it. -/
def atSecond (d c : BitVec 6) (s : State) : State := { s with dstate := d, secCount := c }

@[simp] theorem reading_atSecond : reading d c p r (atSecond d' c' s) = reading d c p r s := by
  unfold reading setSlot atSecond
  split <;> rfl

@[simp] theorem advance_reading : advance (reading d c p r s) = reading (d + 1) (c + 1) p r s := rfl

@[simp] theorem clearParity_reading : clearParity (reading d c p r s) = reading d c false r s := rfl

@[simp] theorem updateWrite_reading (f : TimeRecord → TimeRecord) :
    updateWrite f (reading d c p r s) = reading d c p (f r) s := by
  rw [updateWrite, writeSlot_reading, reading_writeIndex]
  unfold reading setSlot
  split <;> rfl

/-- A fault sees the position and the second, and neither the record nor the parity. -/
theorem raiseFault_reading {k : ErrorKind} (hk : forcesNotSynced k = false) :
    raiseFault k (reading d c p r s) = reading d c p r (raiseFault k (atSecond d c s)) := by
  have hslot (i : BitVec 1) :
      raiseFault k { setSlot i r s with dstate := d, secCount := c, parity := p } =
        { setSlot i r (raiseFault k (atSecond d c s)) with dstate := d, secCount := c, parity := p } := by
    rw [raiseFault_writes, raiseFault_writes, hk]
    obtain rfl | rfl : i = 0 ∨ i = 1 := by revert i; decide
    all_goals rfl
  rw [reading, reading, raiseFault_writeIndex]
  exact hslot s.writeIndex

theorem raiseWhen_reading {k : ErrorKind} (hk : forcesNotSynced k = false) (bad : Bool) :
    raiseWhen bad k (reading d c p r s) = reading d c p r (raiseWhen bad k (atSecond d c s)) := by
  cases bad
  · exact (reading_atSecond d c d c p r s).symm
  · exact raiseFault_reading d c p r s hk

end

/-- A data bit, from the middle of a minute (R206). -/
theorem dataBit_reading (f : TimeRecord → TimeRecord) (v : Bool) (d c : BitVec 6) (p : Bool) (r : TimeRecord) (s : State) :
    dataBit f v (reading d c p r s) = reading (d + 1) (c + 1) (parityNext p v) (f r) s :=
  congrArg advance (updateWrite_reading d c (parityNext p v) r s f)

/-- A check, the parity reset, the rewrite of the write slot and the advance, from the middle of a minute (D40). -/
theorem checkAndRewrite_reading {k : ErrorKind} (hk : forcesNotSynced k = false) (bad : Bool) (f : TimeRecord → TimeRecord)
    (d c : BitVec 6) (p : Bool) (r : TimeRecord) (s : State) :
    advance (updateWrite f (clearParity (raiseWhen bad k (reading d c p r s)))) =
      reading (d + 1) (c + 1) false (f r) (raiseWhen bad k (atSecond d c s)) := by
  rw [raiseWhen_reading d c p r s hk, clearParity_reading, updateWrite_reading, advance_reading]

/-! ## What one bit makes of it -/

/-- The parity accumulator after the rule of position `q`. -/
def parityAfter (q : Position) (v p : Bool) : Bool :=
  match q with
  | .minute _ | .hour _ | .day _ | .weekday _ | .month _ | .year _ => parityNext p v
  | .startTime | .parityMinute | .parityHour | .parityDate => false
  | .notSynced | .undefined | .startOfMinute | .ignore | .newTz | .cest | .cet | .leap | .endOfMinute => p

/-- Whether the bit `v` is a fault in position `q`, where the parity is `p` and the write slot holds `r`. -/
def bitIsBad (q : Position) (v p : Bool) (r : TimeRecord) : Bool :=
  match q with
  | .startOfMinute => v
  | .cet => v == r.isCest
  | .startTime => !v
  | .parityMinute | .parityHour | .parityDate => parityFails p v
  | _ => false

/-- The kind of that fault. -/
def kindOfBadBit (q : Position) : ErrorKind :=
  match q with
  | .startOfMinute => .startOfMinute
  | .cet => .cetCest
  | .startTime => .startTime
  | .parityMinute => .parityMinute
  | .parityHour => .parityHour
  | _ => .parityDate

/-- The positions 0 to 57: a rule and the advance, and no verdict. -/
def beforeVerdict (q : Position) : Bool :=
  match q with
  | .notSynced | .undefined | .parityDate | .endOfMinute => false
  | _ => true

theorem le_of_beforeVerdict {d : BitVec 6} (hq : beforeVerdict (positionOfNat d.toNat) = true) : d ≤ 59 := by
  have named : ∀ d : BitVec 6, beforeVerdict (positionOfNat d.toNat) = true → d ≤ 59 := by decide
  exact named d hq

/-- The rule of such a position: the bit into the record and the parity, a fault where the bit is bad, and on. -/
theorem positionRule_reading {q : Position} (hq : beforeVerdict q = true) (v : Bool) (d c : BitVec 6) (p : Bool)
    (r : TimeRecord) (s : State) :
    positionRule q v (reading d c p r s) =
      reading (d + 1) (c + 1) (parityAfter q v p) (recordRule q v r)
        (raiseWhen (bitIsBad q v p r) (kindOfBadBit q) (atSecond d c s)) := by
  cases q with
  | notSynced | undefined | parityDate | endOfMinute => exact absurd hq Bool.false_ne_true
  | startOfMinute => exact congrArg advance (raiseWhen_reading d c p r s rfl v)
  | ignore => exact (reading_atSecond ..).symm
  | newTz | cest | leap => simp [positionRule, ruleNewTz, ruleCest, ruleLeap, parityAfter, recordRule, bitIsBad]
  | cet =>
    rw [positionRule, ruleCet_eq, updateWrite_reading, raiseWhen_reading _ _ _ _ _ rfl, writeSlot_reading]
    rfl
  | startTime | parityMinute | parityHour => exact checkAndRewrite_reading rfl _ _ d c p r s
  | minute | hour | day | weekday | month | year =>
    rw [positionRule, dataBit_reading]
    exact (reading_atSecond ..).symm

/-- In a position 0 to 57 a bit is one step of the reading, with a fault where the bit is bad. -/
theorem secondStep_reading {d : BitVec 6} (hq : beforeVerdict (positionOfNat d.toNat) = true) (v : Bool) (c : BitVec 6)
    (p : Bool) (r : TimeRecord) (s : State) :
    secondStep (bitClass v) (reading d c p r s) =
      reading (d + 1) (c + 1) (parityAfter (positionOfNat d.toNat) v p) (recordRule (positionOfNat d.toNat) v r)
        (raiseWhen (bitIsBad (positionOfNat d.toNat) v p r) (kindOfBadBit (positionOfNat d.toNat)) (atSecond d c s)) := by
  rw [secondStep_bitClass v rfl (le_of_beforeVerdict hq), reading_dstate, positionRule_reading hq]

/-! ## Runs of bits without a fault -/

theorem secondSteps_append (xs ys : List Cls) (s : State) : secondSteps (xs ++ ys) s = secondSteps ys (secondSteps xs s) :=
  List.foldl_append

/-- The record after the rules of the positions from `n` on for the bits of a list. -/
def recordRun : Nat → List Bool → TimeRecord → TimeRecord
  | _, [], r => r
  | n, v :: vs, r => recordRun (n + 1) vs (recordRule (positionOfNat n) v r)

/-- The parity after them. -/
def parityRun : Nat → List Bool → Bool → Bool
  | _, [], p => p
  | n, v :: vs, p => parityRun (n + 1) vs (parityAfter (positionOfNat n) v p)

/-- Whether all these positions are before the verdict and none of the bits is bad. -/
def runIsGood : Nat → List Bool → Bool → TimeRecord → Bool
  | _, [], _, _ => true
  | n, v :: vs, p, r =>
    beforeVerdict (positionOfNat n) && !bitIsBad (positionOfNat n) v p r &&
      runIsGood (n + 1) vs (parityAfter (positionOfNat n) v p) (recordRule (positionOfNat n) v r)

/-- A run of good bits: the position and the second move by its length, and no fault is raised. -/
theorem secondSteps_of_good {n : Nat} {bits : List Bool} {d : BitVec 6} {p : Bool} {r : TimeRecord} (hd : d.toNat = n)
    (hgood : runIsGood n bits p r = true) (c : BitVec 6) (s : State) :
    secondSteps (bits.map bitClass) (reading d c p r s) =
      reading (d + BitVec.ofNat 6 bits.length) (c + BitVec.ofNat 6 bits.length) (parityRun n bits p)
        (recordRun n bits r) s := by
  induction bits generalizing n d c p r with
  | nil => simp [secondSteps, parityRun, recordRun]
  | cons v vs ih =>
    subst hd
    simp only [runIsGood, Bool.and_eq_true, Bool.not_eq_true'] at hgood
    obtain ⟨⟨hq, hbad⟩, hrest⟩ := hgood
    have hle := le_of_beforeVerdict hq
    have hsucc : (d + 1).toNat = d.toNat + 1 := by bv_omega
    have hcount (x : BitVec 6) : x + 1 + BitVec.ofNat 6 vs.length = x + BitVec.ofNat 6 (v :: vs).length := by
      rw [List.length_cons]
      bv_omega
    have hstep := secondStep_reading hq v c p r s
    rw [hbad, raiseWhen_false, reading_atSecond] at hstep
    change secondSteps (vs.map bitClass) (secondStep (bitClass v) (reading d c p r s)) = _
    rw [hstep, ih hsucc hrest, hcount, hcount]
    rfl

/-! ## Data positions -/

/-- The positions of data bits, which cannot be bad (R206). -/
def isData (q : Position) : Bool :=
  match q with
  | .minute _ | .hour _ | .day _ | .weekday _ | .month _ | .year _ => true
  | _ => false

theorem data_position {q : Position} (hq : isData q = true) (v p : Bool) (r : TimeRecord) :
    beforeVerdict q = true ∧ bitIsBad q v p r = false ∧ parityAfter q v p = p.xor v := by
  cases q with
  | minute | hour | day | weekday | month | year => exact ⟨rfl, rfl, rfl⟩
  | _ => exact absurd hq Bool.false_ne_true

/-- Data bits never raise, and the parity after them is their XOR (R206, R216). -/
theorem data_run {n : Nat} {bits : List Bool} (hdata : ∀ k < bits.length, isData (positionOfNat (n + k)) = true) (p : Bool)
    (r : TimeRecord) : runIsGood n bits p r = true ∧ parityRun n bits p = p.xor (xorBits bits) := by
  induction bits generalizing n p r with
  | nil => simp [runIsGood, parityRun, xorBits]
  | cons v vs ih =>
    obtain ⟨hq, hbad, hparity⟩ := data_position (hdata 0 (Nat.zero_lt_succ _)) v p r
    have hrest (k : Nat) (hk : k < vs.length) : isData (positionOfNat (n + 1 + k)) = true := by
      rw [Nat.add_right_comm]
      exact hdata (k + 1) (Nat.succ_lt_succ hk)
    rw [Nat.add_zero] at hq hbad hparity
    obtain ⟨hgood, hxor⟩ := ih hrest (p.xor v) (recordRule (positionOfNat n) v r)
    rw [runIsGood, parityRun, xorBits, hq, hbad, hparity, hgood, hxor, Bool.xor_assoc]
    exact ⟨rfl, rfl⟩

theorem secondSteps_data {d : BitVec 6} {bits : List Bool}
    (hdata : ∀ k < bits.length, isData (positionOfNat (d.toNat + k)) = true) (c : BitVec 6) (p : Bool) (r : TimeRecord)
    (s : State) :
    secondSteps (bits.map bitClass) (reading d c p r s) =
      reading (d + BitVec.ofNat 6 bits.length) (c + BitVec.ofNat 6 bits.length) (p.xor (xorBits bits))
        (recordRun d.toNat bits r) s := by
  obtain ⟨hgood, hxor⟩ := data_run hdata p r
  rw [secondSteps_of_good rfl hgood, hxor]

/-! ## The parity groups (R216) -/

@[simp] theorem reading_minuteFault (d c : BitVec 6) (p : Bool) (r : TimeRecord) (s : State) :
    (reading d c p r s).minuteFault = s.minuteFault :=
  setSlot_minuteFault s.writeIndex r s

/-- The positions of the three parity bits. -/
def isParity (q : Position) : Bool :=
  match q with
  | .parityMinute | .parityHour | .parityDate => true
  | _ => false

theorem raiseWhen_minuteFault (bad : Bool) (k : ErrorKind) (s : State) :
    (raiseWhen bad k s).minuteFault = (s.minuteFault || bad) := by
  cases bad <;> simp

theorem minuteFault_positionRule_of_parity {q : Position} (hq : isParity q = true) (v : Bool) (s : State) :
    (positionRule q v s).minuteFault = (s.minuteFault || parityFails s.parity v) := by
  cases q with
  | parityMinute | parityHour => exact (updateWrite_minuteFault _ _).trans (raiseWhen_minuteFault ..)
  | parityDate => exact raiseWhen_minuteFault ..
  | _ => exact absurd hq Bool.false_ne_true

/-- A group of `len` data positions from `n` on, with its parity position after them. -/
theorem parity_group {n len : Nat} (hn : n + len ≤ 59) (hdata : ∀ k < len, isData (positionOfNat (n + k)) = true)
    (hparity : isParity (positionOfNat (n + len)) = true) {bits : List Bool} (v : Bool) {s : State} (hd : s.dstate.toNat = n)
    (hlen : bits.length = len) (hp : s.parity = false) (hf : s.minuteFault = false) :
    let t := secondSteps (bits.map bitClass) s
    t.parity = xorBits bits ∧ t.minuteFault = false ∧ t.dstate.toNat = n + len ∧
      ((secondStep (bitClass v) t).minuteFault = true ↔ (bits ++ [v]).count true % 2 = 1) := by
  subst hd hlen
  have hrun := secondSteps_data hdata s.secCount s.parity (writeSlot s) s
  rw [reading_self, hp, Bool.false_xor] at hrun
  have hend : (s.dstate + BitVec.ofNat 6 bits.length).toNat = s.dstate.toNat + bits.length := by bv_omega
  have hle : s.dstate + BitVec.ofNat 6 bits.length ≤ 59 := by bv_omega
  rw [hrun]
  refine ⟨rfl, (reading_minuteFault ..).trans hf, hend, ?_⟩
  rw [secondStep_bitClass v rfl hle, reading_dstate, hend, minuteFault_positionRule_of_parity hparity,
    reading_minuteFault, hf, Bool.false_or, reading_parity]
  exact parityFails_iff_odd bits v

/-- Settles O31: `parity_group` at the positions of the three groups. -/
theorem parityGroupsAreEven : Obligations.ParityGroupsAreEven := by
  intro g hg bits v s hd hlen hp hf
  simp only [List.mem_cons, List.not_mem_nil, or_false] at hg
  obtain rfl | rfl | rfl := hg
  · exact parity_group (by decide) (by decide) rfl v hd hlen hp hf
  · exact parity_group (by decide) (by decide) rfl v hd hlen hp hf
  · exact parity_group (by decide) (by decide) rfl v hd hlen hp hf

end Sys2Proof.Machine
end

section
/-! PROOFS. Whole telegrams (42_decoder R232): a run over the header and three parity groups with any bits
(`secondSteps_telegram`), from which a valid telegram is its record, published (O37), and one flipped bit is one parity fault
and no publish (O38). -/

namespace Sys2Proof.Machine

/-! ## The record of a telegram (R206) -/

/-- A digit character with the bits of a digit ORed in, least significant first. -/
def orDigit (c : Byte) (n : Nat) (d : BitVec n) : Byte := (List.range n).foldl (fun c j => orBit c j (d.getLsbD j)) c

/-- From '0' the bits of a digit give its character. -/
theorem orDigit_one (d : BitVec 1) : orDigit (digitChar 0) 1 d = bcdChar 1 d := by revert d; decide
theorem orDigit_two (d : BitVec 2) : orDigit (digitChar 0) 2 d = bcdChar 2 d := by revert d; decide
theorem orDigit_three (d : BitVec 3) : orDigit (digitChar 0) 3 d = bcdChar 3 d := by revert d; decide
theorem orDigit_four (d : BitVec 4) : orDigit (digitChar 0) 4 d = bcdChar 4 d := by revert d; decide

section
variable (m : Telegram) (r : TimeRecord)

theorem recordRun_minuteBits :
    recordRun 21 (minuteBits m) r = { r with minO := orDigit r.minO 4 m.minO, minT := orDigit r.minT 3 m.minT } := by
  simp [minuteBits, lsbFirst, List.range_succ, recordRun, positionOfNat, recordRule, minuteBit, orDigit]

theorem recordRun_hourBits :
    recordRun 29 (hourBits m) r = { r with hourO := orDigit r.hourO 4 m.hourO, hourT := orDigit r.hourT 2 m.hourT } := by
  simp [hourBits, lsbFirst, List.range_succ, recordRun, positionOfNat, recordRule, hourBit, orDigit]

theorem recordRun_dateBits :
    recordRun 36 (dateBits m) r =
      { r with
        dayO := orDigit r.dayO 4 m.dayO
        dayT := orDigit r.dayT 2 m.dayT
        weekday := orDigit r.weekday 3 m.weekday
        monthO := orDigit r.monthO 4 m.monthO
        monthT := orDigit r.monthT 1 m.monthT
        yearO := orDigit r.yearO 4 m.yearO
        yearT := orDigit r.yearT 4 m.yearT } := by
  simp [dateBits, lsbFirst, List.range_succ, recordRun, positionOfNat, recordRule, dayBit, weekdayBit, monthBit, yearBit,
    orDigit]

/-- The record when the header of `m` has been read: the flags, and the minute digits zeroed. -/
def headerRecord : TimeRecord :=
  { r with
    tzChange := m.tzChange
    isCest := m.isCest
    isCet := !m.isCest
    leapPending := m.leapPending
    minT := digitChar 0
    minO := digitChar 0 }

/-- The record after the header of `m`, then the three groups with the data bits `b₁`, `b₂`, `b₃`. -/
def groupsRecord (b₁ b₂ b₃ : List Bool) : TimeRecord :=
  recordRun 36 b₃ (zeroDate (recordRun 29 b₂
    { recordRun 21 b₁ (headerRecord m r) with hourT := digitChar 0, hourO := digitChar 0 }))

/-- Nothing of the old record is left (R231). -/
theorem groupsRecord_telegram : groupsRecord m r (minuteBits m) (hourBits m) (dateBits m) = telegramRecord m := by
  rw [groupsRecord, recordRun_minuteBits, recordRun_hourBits, recordRun_dateBits]
  simp only [headerRecord, zeroDate, orDigit_one, orDigit_two, orDigit_three, orDigit_four]
  rfl

/-! ## The header (positions 0 to 20) -/

/-- The bits of positions 0 to 20. -/
def headerBits : List Bool :=
  [false] ++ lsbFirst 15 m.call ++ [m.tzChange, m.isCest, !m.isCest, m.leapPending] ++ [true]

/-- The header of a telegram is good: START_OF_MINUTE is 0, CET differs from CEST, and START_TIME is 1. -/
theorem header_run (p : Bool) :
    runIsGood 0 (headerBits m) p r = true ∧ parityRun 0 (headerBits m) p = false ∧
      recordRun 0 (headerBits m) r = headerRecord m r := by
  simp [headerBits, headerRecord, lsbFirst, List.range_succ, runIsGood, parityRun, recordRun, positionOfNat, beforeVerdict,
    bitIsBad, parityAfter, recordRule]

theorem secondSteps_header (p : Bool) (s : State) :
    secondSteps ((headerBits m).map bitClass) (reading 0 0 p r s) = reading 21 21 false (headerRecord m r) s := by
  obtain ⟨hgood, hparity, hrecord⟩ := header_run m r p
  rw [secondSteps_of_good (n := 0) (d := 0) rfl hgood, hparity, hrecord]
  rfl

end

/-! ## The groups (positions 21 to 58) -/

/-- The data bits of a group, then its parity bit, where the next field's digits are zeroed (R208, R211). -/
theorem secondSteps_group {d e : BitVec 6} {bits : List Bool} {q : Position}
    (hdata : ∀ k < bits.length, isData (positionOfNat (d.toNat + k)) = true) (he : d + BitVec.ofNat 6 bits.length = e)
    (hpos : positionOfNat e.toNat = q) (hq : q = .parityMinute ∨ q = .parityHour) (v : Bool) (r : TimeRecord) (s : State) :
    secondSteps ((bits ++ [v]).map bitClass) (reading d d false r s) =
      reading (e + 1) (e + 1) false (recordRule q v (recordRun d.toNat bits r))
        (raiseWhen (parityFails (xorBits bits) v) (kindOfBadBit q) (atSecond e e s)) := by
  have hbefore : beforeVerdict (positionOfNat e.toNat) = true := by
    rw [hpos]
    obtain rfl | rfl := hq <;> rfl
  rw [List.map_append, secondSteps_append, secondSteps_data hdata, Bool.false_xor, he]
  refine (secondStep_reading hbefore v _ _ _ s).trans ?_
  rw [hpos]
  obtain rfl | rfl := hq <;> rfl

theorem giveVerdict_reading (d c : BitVec 6) (p : Bool) (r : TimeRecord) (s : State) :
    giveVerdict (reading d c p r s) = reading d c p r (giveVerdict s) := by
  unfold reading setSlot giveVerdict
  split <;> rfl

theorem secondSteps_minuteGroup {bits : List Bool} (hlen : bits.length = 7) (v : Bool) (r : TimeRecord) (s : State) :
    secondSteps ((bits ++ [v]).map bitClass) (reading 21 21 false r s) =
      reading 29 29 false { recordRun 21 bits r with hourT := digitChar 0, hourO := digitChar 0 }
        (raiseWhen (parityFails (xorBits bits) v) .parityMinute (atSecond 28 28 s)) :=
  secondSteps_group (d := 21) (e := 28) (by rw [hlen]; decide) (by rw [hlen]; rfl) rfl (.inl rfl) v r s

theorem secondSteps_hourGroup {bits : List Bool} (hlen : bits.length = 6) (v : Bool) (r : TimeRecord) (s : State) :
    secondSteps ((bits ++ [v]).map bitClass) (reading 29 29 false r s) =
      reading 36 36 false (zeroDate (recordRun 29 bits r))
        (raiseWhen (parityFails (xorBits bits) v) .parityHour (atSecond 35 35 s)) :=
  secondSteps_group (d := 29) (e := 35) (by rw [hlen]; decide) (by rw [hlen]; rfl) rfl (.inr rfl) v r s

/-- The date group, whose parity position gives the verdict (R219). -/
theorem secondSteps_dateGroup {bits : List Bool} (hlen : bits.length = 22) (v : Bool) (r : TimeRecord) (s : State) :
    secondSteps ((bits ++ [v]).map bitClass) (reading 36 36 false r s) =
      reading 59 59 false (recordRun 36 bits r)
        (giveVerdict (raiseWhen (parityFails (xorBits bits) v) .parityDate (atSecond 58 58 s))) := by
  have hdata : ∀ k < bits.length, isData (positionOfNat ((36 : BitVec 6).toNat + k)) = true := by
    rw [hlen]
    decide
  rw [List.map_append, secondSteps_append, secondSteps_data hdata, Bool.false_xor, hlen]
  change secondStep (bitClass v) (reading 58 58 (xorBits bits) (recordRun 36 bits r) s) = _
  rw [secondStep_bitClass v (reading_dstate ..) (by decide)]
  refine (ruleParityDate_eq v _).trans ?_
  rw [raiseWhen_reading _ _ _ _ _ rfl, clearParity_reading, giveVerdict_reading]
  rfl

/-- The bits of a minute: the header of `m` and the three groups. -/
def minuteOf (m : Telegram) (b₁ : List Bool) (v₁ : Bool) (b₂ : List Bool) (v₂ : Bool) (b₃ : List Bool) (v₃ : Bool) :
    List Bool :=
  headerBits m ++ ((b₁ ++ [v₁]) ++ ((b₂ ++ [v₂]) ++ (b₃ ++ [v₃])))

theorem telegramBits_eq (m : Telegram) :
    telegramBits m = minuteOf m (minuteBits m) (xorBits (minuteBits m)) (hourBits m) (xorBits (hourBits m)) (dateBits m)
      (xorBits (dateBits m)) := by
  simp only [telegramBits, minuteOf, headerBits, List.append_assoc]

/-- A minute with the header of `m` and any bits in the groups: each group that fails raises its fault, and the verdict
follows. -/
theorem secondSteps_minuteOf (m : Telegram) {b₁ b₂ b₃ : List Bool} (h₁ : b₁.length = 7) (h₂ : b₂.length = 6)
    (h₃ : b₃.length = 22) (v₁ v₂ v₃ p : Bool) (r : TimeRecord) (s : State) :
    secondSteps ((minuteOf m b₁ v₁ b₂ v₂ b₃ v₃).map bitClass) (reading 0 0 p r s) =
      reading 59 59 false (groupsRecord m r b₁ b₂ b₃)
        (giveVerdict (raiseWhen (parityFails (xorBits b₃) v₃) .parityDate (atSecond 58 58
          (raiseWhen (parityFails (xorBits b₂) v₂) .parityHour (atSecond 35 35
            (raiseWhen (parityFails (xorBits b₁) v₁) .parityMinute (atSecond 28 28 s))))))) := by
  rw [minuteOf, List.map_append, secondSteps_append, secondSteps_header, List.map_append, secondSteps_append,
    secondSteps_minuteGroup h₁, List.map_append, secondSteps_append, secondSteps_hourGroup h₂, secondSteps_dateGroup h₃,
    groupsRecord]

/-! ## The valid telegram -/

@[simp] theorem giveVerdict_atSecond (d c : BitVec 6) (s : State) :
    giveVerdict (atSecond d c s) = atSecond d c (giveVerdict s) := rfl

theorem length_headerBits (m : Telegram) : (headerBits m).length = 21 := rfl
theorem length_minuteBits (m : Telegram) : (minuteBits m).length = 7 := rfl
theorem length_hourBits (m : Telegram) : (hourBits m).length = 6 := rfl
theorem length_dateBits (m : Telegram) : (dateBits m).length = 22 := rfl

/-- A state at the start of a minute is reading from position 0. -/
theorem reading_zero {s : State} (hd : s.dstate = 0) (hc : s.secCount = 0) : reading 0 0 s.parity (writeSlot s) s = s := by
  have hself := reading_self s
  rwa [hd, hc] at hself

theorem secondSteps_telegramBits (m : Telegram) {s : State} (hd : s.dstate = 0) (hc : s.secCount = 0) :
    secondSteps ((telegramBits m).map bitClass) s = reading 59 59 false (telegramRecord m) (giveVerdict s) := by
  have hrun := secondSteps_minuteOf m (length_minuteBits m) (length_hourBits m) (length_dateBits m) (xorBits (minuteBits m))
    (xorBits (hourBits m)) (xorBits (dateBits m)) s.parity (writeSlot s) s
  rw [← telegramBits_eq, reading_zero hd hc, groupsRecord_telegram] at hrun
  simpa [parityFails_self] using hrun

/-- The MARKER at END_OF_MINUTE is the minute boundary (R220). -/
theorem secondStep_marker_end {s : State} (h : s.dstate = 59) : secondStep .marker s = minuteBoundary s := by
  have hq : position s = .endOfMinute := position_eq_endOfMinute_iff.mpr h
  rw [secondStep_of_le .marker (by rw [h]; decide), hq]
  rfl

/-- `s` at END_OF_MINUTE of a valid minute whose record is `r`. -/
def validEnd (r : TimeRecord) (s : State) : State :=
  { setSlot s.writeIndex r s with dstate := 59, secCount := 59, parity := false, validTimeInfo := true }

theorem reading_giveVerdict_of_no_fault {s : State} (hf : s.minuteFault = false) (r : TimeRecord) :
    reading 59 59 false r (giveVerdict s) = validEnd r s := by
  unfold reading validEnd giveVerdict setSlot
  rw [hf]
  split <;> rfl

/-- Settles O37: no bit of the telegram is bad, so the verdict is valid, and the MARKER publishes. -/
theorem validTelegramIsPublished : Obligations.ValidTelegramIsPublished := by
  intro m s hd hc hf
  have hbits : secondSteps ((telegramBits m).map bitClass) s = validEnd (telegramRecord m) s :=
    (secondSteps_telegramBits m hd hc).trans (reading_giveVerdict_of_no_fault hf _)
  refine ⟨hbits, ?_⟩
  have hmarker (r : TimeRecord) : secondSteps [.marker] (validEnd r s) = startMinute (publish (validEnd r s)) :=
    (secondStep_marker_end rfl).trans (minuteBoundary_of_valid (s := validEnd r s) rfl)
  rw [secondSteps_append, hbits]
  refine (hmarker _).trans ?_
  unfold validEnd setSlot
  split <;> simp [startMinute, startOfMinute, publish, hf]

/-! ## The telegram with one bit flipped -/

section
variable (m : Telegram) {b₁ b₂ : List Bool} (b₃ : List Bool) (v₁ v₂ v₃ : Bool) (j : Nat)

theorem flipBit_minuteOf_minute (h₁ : b₁.length = 7) (hj : j < 7) :
    flipBit (21 + j) (minuteOf m b₁ v₁ b₂ v₂ b₃ v₃) = minuteOf m (flipBit j b₁) v₁ b₂ v₂ b₃ v₃ := by
  rw [minuteOf, ← length_headerBits m, flipBit_append_right, flipBit_append_left (by simp; omega), flipBit_append_left (by omega),
    minuteOf]

theorem flipBit_minuteOf_hour (h₁ : b₁.length = 7) (h₂ : b₂.length = 6) (hj : j < 6) :
    flipBit (29 + j) (minuteOf m b₁ v₁ b₂ v₂ b₃ v₃) = minuteOf m b₁ v₁ (flipBit j b₂) v₂ b₃ v₃ := by
  have hbefore : (headerBits m ++ (b₁ ++ [v₁])).length = 29 := by simp [length_headerBits, h₁]
  rw [minuteOf, ← List.append_assoc, ← hbefore, flipBit_append_right, flipBit_append_left (by simp; omega),
    flipBit_append_left (by omega), minuteOf, List.append_assoc]

theorem flipBit_minuteOf_date (h₁ : b₁.length = 7) (h₂ : b₂.length = 6) (hj : j < b₃.length) :
    flipBit (36 + j) (minuteOf m b₁ v₁ b₂ v₂ b₃ v₃) = minuteOf m b₁ v₁ b₂ v₂ (flipBit j b₃) v₃ := by
  have hbefore : (headerBits m ++ (b₁ ++ [v₁]) ++ (b₂ ++ [v₂])).length = 36 := by simp [length_headerBits, h₁, h₂]
  rw [minuteOf, ← List.append_assoc, ← List.append_assoc, ← hbefore, flipBit_append_right, flipBit_append_left hj,
    minuteOf, List.append_assoc, List.append_assoc]

end

theorem parityFails_flipBit {j : Nat} {bits : List Bool} (hj : j < bits.length) :
    parityFails (xorBits (flipBit j bits)) (xorBits bits) = true := by
  rw [xorBits_flipBit hj]
  cases xorBits bits <;> rfl

/-- `s` when the bad parity bit of second `d` has raised `k` and the minute has its verdict. -/
def badMinute (k : ErrorKind) (d : BitVec 6) (s : State) : State := giveVerdict (raiseFault k (atSecond d d s))

/-- A flipped data bit makes its own group fail and no other: exactly one fault, of that group's kind and at its parity
position. -/
theorem secondSteps_flipped (m : Telegram) {i at_ : Nat} {k : ErrorKind} {s : State}
    (hi : (21 ≤ i ∧ i ≤ 27 ∧ at_ = 28 ∧ k = .parityMinute) ∨ (29 ≤ i ∧ i ≤ 34 ∧ at_ = 35 ∧ k = .parityHour) ∨
      (36 ≤ i ∧ i ≤ 57 ∧ at_ = 58 ∧ k = .parityDate)) (hd : s.dstate = 0) (hc : s.secCount = 0) :
    ∃ r, secondSteps ((flipBit i (telegramBits m)).map bitClass) s =
      reading 59 59 false r (badMinute k (BitVec.ofNat 6 at_) s) := by
  have hrun {b₁ b₂ b₃ : List Bool} (h₁ : b₁.length = 7) (h₂ : b₂.length = 6) (h₃ : b₃.length = 22) :=
    secondSteps_minuteOf m h₁ h₂ h₃ (xorBits (minuteBits m)) (xorBits (hourBits m)) (xorBits (dateBits m)) s.parity
      (writeSlot s) s
  simp only [reading_zero hd hc] at hrun
  have hminute := length_minuteBits m
  have hhour := length_hourBits m
  have hdate := length_dateBits m
  rw [telegramBits_eq]
  obtain ⟨hlo, hhi, rfl, rfl⟩ | ⟨hlo, hhi, rfl, rfl⟩ | ⟨hlo, hhi, rfl, rfl⟩ := hi <;>
    obtain ⟨j, rfl⟩ := Nat.exists_eq_add_of_le hlo
  · rw [flipBit_minuteOf_minute _ _ _ _ _ _ hminute (by omega),
      hrun ((length_flipBit j _).trans hminute) hhour hdate, parityFails_flipBit (by omega)]
    simp only [parityFails_self, raiseWhen_true, raiseWhen_false, giveVerdict_atSecond, reading_atSecond]
    exact ⟨_, rfl⟩
  · rw [flipBit_minuteOf_hour _ _ _ _ _ _ hminute hhour (by omega),
      hrun hminute ((length_flipBit j _).trans hhour) hdate, parityFails_flipBit (by omega)]
    simp only [parityFails_self, raiseWhen_true, raiseWhen_false, giveVerdict_atSecond, reading_atSecond]
    exact ⟨_, rfl⟩
  · rw [flipBit_minuteOf_date _ _ _ _ _ _ hminute hhour (by omega),
      hrun hminute hhour ((length_flipBit j _).trans hdate), parityFails_flipBit (by omega)]
    simp only [parityFails_self, raiseWhen_true, raiseWhen_false]
    exact ⟨_, rfl⟩

/-! ## After the minute boundary of an invalid minute -/

section
variable (d c : BitVec 6) (p : Bool) (r : TimeRecord) (s : State)

@[simp] theorem reading_validTimeInfo : (reading d c p r s).validTimeInfo = s.validTimeInfo :=
  setSlot_validTimeInfo s.writeIndex r s
@[simp] theorem reading_errCount : (reading d c p r s).errCount = s.errCount := setSlot_errCount s.writeIndex r s
@[simp] theorem reading_lastError : (reading d c p r s).lastError = s.lastError := setSlot_lastError s.writeIndex r s
@[simp] theorem reading_errorDecoderState : (reading d c p r s).errorDecoderState = s.errorDecoderState :=
  setSlot_errorDecoderState s.writeIndex r s
@[simp] theorem reading_errorPosition : (reading d c p r s).errorPosition = s.errorPosition :=
  setSlot_errorPosition s.writeIndex r s
@[simp] theorem reading_readIndex : (reading d c p r s).readIndex = s.readIndex := setSlot_readIndex s.writeIndex r s
@[simp] theorem reading_fresh : (reading d c p r s).fresh = s.fresh := setSlot_fresh s.writeIndex r s
@[simp] theorem reading_everPublished : (reading d c p r s).everPublished = s.everPublished :=
  setSlot_everPublished s.writeIndex r s

end

theorem readSlot_reading {s : State} (h : rolesDiffer s) (d c : BitVec 6) (p : Bool) (r : TimeRecord) :
    readSlot (reading d c p r s) = readSlot s := by
  rw [readSlot, reading_readIndex]
  exact slot_setSlot_other h r s

/-- What the fallback leaves and sets at the boundary of an invalid minute (43_publish R245). -/
theorem minuteBoundary_of_invalid_keeps {s : State} (h : s.validTimeInfo = false) :
    let u := minuteBoundary s
    u.errCount = s.errCount ∧ u.lastError = s.lastError ∧ u.writeIndex = s.writeIndex ∧ u.readIndex = s.readIndex ∧
      u.fresh = s.fresh ∧ u.needsFallback = true ∧
      readSlot u = (if s.everPublished then advanceMinute (readSlot s) else readSlot s) := by
  dsimp only
  rw [minuteBoundary_of_invalid h]
  cases hp : s.everPublished
  · rw [fallback_of_never_published hp]
    exact ⟨rfl, rfl, rfl, rfl, rfl, rfl, rfl⟩
  · rw [fallback_of_published hp]
    refine ⟨?_, ?_, ?_, ?_, ?_, ?_, readSlot_updateRead advanceMinute { s with needsFallback := true }⟩ <;> simp

section
variable (k : ErrorKind) (d : BitVec 6) (s : State)

theorem badMinute_validTimeInfo : (badMinute k d s).validTimeInfo = false := by
  rw [badMinute, giveVerdict, raiseFault_minuteFault, Bool.not_true]

theorem badMinute_errCount :
    (badMinute k d s).errCount = if s.errCount < s.cfg.errCntMax then s.errCount + 1 else s.errCount :=
  raiseFault_errCount k (atSecond d d s)

theorem badMinute_latch_of_empty (h : s.lastError = 0) :
    (badMinute k d s).lastError = errorCode k ∧ (badMinute k d s).errorDecoderState = d ∧
      (badMinute k d s).errorPosition = d :=
  ⟨(raiseFault_lastError k (atSecond d d s)).trans (if_pos h),
    (raiseFault_errorDecoderState k (atSecond d d s)).trans (if_pos h),
    (raiseFault_errorPosition k (atSecond d d s)).trans (if_pos h)⟩

theorem badMinute_latch_of_full (h : s.lastError ≠ 0) :
    (badMinute k d s).lastError = s.lastError ∧ (badMinute k d s).errorDecoderState = s.errorDecoderState ∧
      (badMinute k d s).errorPosition = s.errorPosition :=
  ⟨(raiseFault_lastError k (atSecond d d s)).trans (if_neg h),
    (raiseFault_errorDecoderState k (atSecond d d s)).trans (if_neg h),
    (raiseFault_errorPosition k (atSecond d d s)).trans (if_neg h)⟩

/-- The consumer's side is untouched. -/
theorem badMinute_frame : ConsumerFrame s (badMinute k d s) := by
  have hat : ConsumerFrame s (atSecond d d s) := .of_consumerSide_eq rfl
  exact (hat.then_raiseFault k).trans (.of_consumerSide_eq rfl)

theorem badMinute_fresh : (badMinute k d s).fresh = s.fresh := raiseFault_fresh k (atSecond d d s)

end

/-- Settles O38: the telegram's run raises one fault (`secondSteps_flipped`), and the boundary of the invalid minute falls
back. -/
theorem flippedBitIsOneParityFault : Obligations.FlippedBitIsOneParityFault := by
  intro m i at_ k s hi hd hc hf hroles t u
  obtain ⟨r, ht⟩ : ∃ r, t = reading 59 59 false r (badMinute k (BitVec.ofNat 6 at_) s) := secondSteps_flipped m hi hd hc
  have hat : (BitVec.ofNat 6 at_).toNat = at_ := by
    rw [BitVec.toNat_ofNat]
    omega
  have hframe := badMinute_frame k (BitVec.ofNat 6 at_) s
  have hinvalid : t.validTimeInfo = false := by rw [ht, reading_validTimeInfo, badMinute_validTimeInfo]
  have hu : u = minuteBoundary t := secondStep_marker_end (by rw [ht]; rfl)
  obtain ⟨herr, hlast, hwrite, hread, hfresh, hfallback, hslot⟩ := minuteBoundary_of_invalid_keeps hinvalid
  rw [← hu] at herr hlast hwrite hread hfresh hfallback hslot
  refine ⟨by rw [ht]; rfl, hinvalid, ?_, fun h0 => ?_, fun h0 => ?_, herr, hlast, hwrite.trans ?_, hread.trans ?_,
    hfresh.trans ?_, hfallback, hslot.trans ?_⟩
  · rw [ht, reading_errCount, badMinute_errCount]
  · obtain ⟨hcode, hstate, hposition⟩ := badMinute_latch_of_empty k (BitVec.ofNat 6 at_) s h0
    rw [ht, reading_lastError, reading_errorDecoderState, reading_errorPosition, hcode, hstate, hposition, hat]
    exact ⟨rfl, rfl, rfl⟩
  · rw [ht, reading_lastError, reading_errorDecoderState, reading_errorPosition]
    exact badMinute_latch_of_full k (BitVec.ofNat 6 at_) s h0
  · rw [ht, reading_writeIndex, hframe.writeIndex_eq]
  · rw [ht, reading_readIndex, hframe.readIndex_eq]
  · rw [ht, reading_fresh, badMinute_fresh]
  · have hroles' : rolesDiffer (badMinute k (BitVec.ofNat 6 at_) s) := by
      rwa [rolesDiffer, hframe.readIndex_eq, hframe.writeIndex_eq]
    rw [ht, reading_everPublished, readSlot_reading hroles', hframe.everPublished_eq, hframe.readSlot_eq hroles]

end Sys2Proof.Machine
end

section
/-! PROOFS. The fallback's minute (43_publish R246 to R248): one equation for each path of `advanceMinute`, whatever the
characters (O40), and from those one minute later on the digits of a time of day (O39). -/

namespace Sys2Proof.Machine

/-! ## The paths (R246, R247) -/

theorem advanceMinute_of_minO_ne {r : TimeRecord} (h : r.minO ≠ digitChar 9) :
    advanceMinute r = { r with minO := incChar r.minO } := by
  rw [advanceMinute, if_pos h]

theorem advanceMinute_of_minT_ne {r : TimeRecord} (ho : r.minO = digitChar 9) (ht : r.minT ≠ digitChar 5) :
    advanceMinute r = { r with minO := digitChar 0, minT := incChar r.minT } := by
  rw [advanceMinute, if_neg (not_not_intro ho), if_pos ht]

/-- At minute "59" the hour takes the carry. -/
theorem advanceMinute_of_carry {r : TimeRecord} (ho : r.minO = digitChar 9) (ht : r.minT = digitChar 5) :
    advanceMinute r = advanceHour { r with minO := digitChar 0, minT := digitChar 0 } := by
  rw [advanceMinute, if_neg (not_not_intro ho), if_neg (not_not_intro ht)]

theorem advanceHour_of_hourO_ne {r : TimeRecord} (ho : r.hourO ≠ digitChar 9)
    (hlast : ¬ (r.hourT = digitChar 2 ∧ r.hourO = digitChar 3)) : advanceHour r = { r with hourO := incChar r.hourO } := by
  rw [advanceHour, if_neg hlast, if_pos ho]

theorem advanceHour_of_carry {r : TimeRecord} (ho : r.hourO = digitChar 9) :
    advanceHour r = { r with hourO := digitChar 0, hourT := incChar r.hourT } := by
  have hlast : ¬ (r.hourT = digitChar 2 ∧ r.hourO = digitChar 3) := fun h => absurd (ho.symm.trans h.2) (by decide)
  rw [advanceHour, if_neg hlast, if_neg (not_not_intro ho)]

theorem advanceHour_of_last {r : TimeRecord} (ht : r.hourT = digitChar 2) (ho : r.hourO = digitChar 3) :
    advanceHour r = { r with hourT := digitChar 0, hourO := digitChar 0 } := by
  rw [advanceHour, if_pos ⟨ht, ho⟩]

/-- Settles O40: the equation of each path; `'d'` is written there as the character's value. -/
theorem advanceMinuteCases : Obligations.AdvanceMinuteCases := by
  intro r
  refine ⟨advanceMinute_of_minO_ne, advanceMinute_of_minT_ne, fun hmo hmt ho hlast => ?_, fun hmo hmt ho => ?_,
    fun hmo hmt ht ho => ?_⟩ <;> rw [advanceMinute_of_carry hmo hmt]
  · exact advanceHour_of_hourO_ne ho hlast
  · exact advanceHour_of_carry ho
  · exact advanceHour_of_last ht ho

/-! ## Digit characters (00_scope R17) -/

theorem digitChar_ne {d e : Nat} (hd : d < 10) (he : e < 10) (h : d ≠ e) : digitChar d ≠ digitChar e := by
  intro heq
  have hdigits : BitVec.ofNat 8 d = BitVec.ofNat 8 e := (BitVec.add_right_inj _).mp heq
  bv_omega

theorem incChar_digitChar (d : Nat) : incChar (digitChar d) = digitChar (d + 1) := by
  unfold incChar digitChar
  bv_omega

/-! ## One minute later (R248) -/

/-- `r` with the time of day `h`:`m` in its digit characters. -/
def atTime (h m : Nat) (r : TimeRecord) : TimeRecord :=
  { r with
    hourT := digitChar (h / 10), hourO := digitChar (h % 10), minT := digitChar (m / 10), minO := digitChar (m % 10) }

theorem atTime_of_digits {h m a b c d : Nat} (ha : h / 10 = a) (hb : h % 10 = b) (hc : m / 10 = c) (hd : m % 10 = d)
    (r : TimeRecord) :
    atTime h m r = { r with hourT := digitChar a, hourO := digitChar b, minT := digitChar c, minO := digitChar d } := by
  rw [← ha, ← hb, ← hc, ← hd, atTime]

/-- Within the hour: the ones digit goes up, or carries into the tens digit. -/
theorem advanceMinute_atTime_of_lt {m : Nat} (hm : m < 59) (h : Nat) (r : TimeRecord) :
    advanceMinute (atTime h m r) = atTime h (m + 1) r := by
  by_cases hones : m % 10 = 9
  · have hminO : (atTime h m r).minO = digitChar 9 := congrArg digitChar hones
    have hminT : (atTime h m r).minT ≠ digitChar 5 := digitChar_ne (by omega) (by omega) (by omega)
    rw [advanceMinute_of_minT_ne hminO hminT,
      atTime_of_digits (h := h) (m := m + 1) (c := m / 10 + 1) (d := 0) rfl rfl (by omega) (by omega), ← incChar_digitChar]
    rfl
  · have hminO : (atTime h m r).minO ≠ digitChar 9 := digitChar_ne (by omega) (by omega) hones
    rw [advanceMinute_of_minO_ne hminO,
      atTime_of_digits (h := h) (m := m + 1) (c := m / 10) (d := m % 10 + 1) rfl rfl (by omega) (by omega),
      ← incChar_digitChar]
    rfl

/-- At minute 59 the hour starts again, one hour later: the hour's ones digit goes up, carries, or the day is over. -/
theorem advanceMinute_atTime_end {h : Nat} (hh : h < 24) (r : TimeRecord) :
    advanceMinute (atTime h 59 r) = atTime ((h + 1) % 24) 0 r := by
  rw [advanceMinute_of_carry (r := atTime h 59 r) rfl rfl]
  by_cases hday : h = 23
  · subst hday
    exact advanceHour_of_last rfl rfl
  rw [Nat.mod_eq_of_lt (by omega : h + 1 < 24)]
  by_cases hones : h % 10 = 9
  · rw [advanceHour_of_carry (congrArg digitChar hones),
      atTime_of_digits (h := h + 1) (m := 0) (a := h / 10 + 1) (b := 0) (by omega) (by omega) rfl rfl,
      ← incChar_digitChar]
    rfl
  · have hlast : ¬ (digitChar (h / 10) = digitChar 2 ∧ digitChar (h % 10) = digitChar 3) := by
      rintro ⟨htens, hthree⟩
      by_cases htwo : h / 10 = 2
      · exact digitChar_ne (by omega) (by omega) (by omega) hthree
      · exact digitChar_ne (by omega) (by omega) htwo htens
    rw [advanceHour_of_hourO_ne (digitChar_ne (by omega) (by omega) hones) hlast,
      atTime_of_digits (h := h + 1) (m := 0) (a := h / 10) (b := h % 10 + 1) (by omega) (by omega) rfl rfl,
      ← incChar_digitChar]
    rfl

/-- Settles O39: minute 59 apart, the hour stands still and the minute goes up. -/
theorem advanceMinuteAddsOne : Obligations.AdvanceMinuteAddsOne := by
  intro h m r hh hm time n
  change advanceMinute (atTime h m r) = atTime (n / 60) (n % 60) r
  by_cases hend : m = 59
  · subst hend
    have hhour : n / 60 = (h + 1) % 24 := by omega
    have hminute : n % 60 = 0 := by omega
    rw [advanceMinute_atTime_end hh, hhour, hminute]
  · have hhour : n / 60 = h := by omega
    have hminute : n % 60 = m + 1 := by omega
    rw [advanceMinute_atTime_of_lt (by omega), hhour, hminute]

end Sys2Proof.Machine
end

section
/-! PROOFS. Publishing (43_publish R241 to R245): the end marker is the minute boundary (O32), and it is the only event but
RESET that publishes (`exec_publishes_or_keeps`), so nothing else moves a role or sets a flag (O41), and the roles swap
together (O42). -/

namespace Sys2Proof.Machine

/-- Settles O32: the boundary with a valid minute and with an invalid one. -/
theorem endMarkerIsMinuteBoundary : Obligations.EndMarkerIsMinuteBoundary := by
  intro s h
  rw [secondStep_marker_end h]
  refine ⟨fun hvalid => ?_, minuteBoundary_eq_of_invalid⟩
  rw [minuteBoundary_of_valid hvalid]
  rfl

/-! ## What a MARKER does to the roles and the flags -/

/-- Nothing is published from `s` to `t`: the roles and `ever_published` stand still, and `fresh` is not set (R242). -/
structure KeepsPublication (s t : State) : Prop where
  writeIndex_eq : t.writeIndex = s.writeIndex
  readIndex_eq : t.readIndex = s.readIndex
  everPublished_eq : t.everPublished = s.everPublished
  fresh_only_falls : t.fresh = true → s.fresh = true

namespace KeepsPublication

theorem of_frame {s t : State} (h : ConsumerFrame s t) : KeepsPublication s t :=
  ⟨h.writeIndex_eq, h.readIndex_eq, h.everPublished_eq, h.fresh_only_falls⟩

theorem trans {s t u : State} (h : KeepsPublication s t) (h' : KeepsPublication t u) : KeepsPublication s u where
  writeIndex_eq := h'.writeIndex_eq.trans h.writeIndex_eq
  readIndex_eq := h'.readIndex_eq.trans h.readIndex_eq
  everPublished_eq := h'.everPublished_eq.trans h.everPublished_eq
  fresh_only_falls := h.fresh_only_falls ∘ h'.fresh_only_falls

end KeepsPublication

/-- The fallback publishes nothing (R245). -/
theorem minuteBoundary_of_invalid_keepsPublication {s : State} (h : s.validTimeInfo = false) :
    KeepsPublication s (minuteBoundary s) := by
  rw [minuteBoundary_of_invalid h]
  cases hp : s.everPublished
  · rw [fallback_of_never_published hp]
    exact ⟨rfl, rfl, rfl, id⟩
  · rw [fallback_of_published hp]
    constructor <;> simp

/-- A MARKER before position 59 is a fault, which makes the minute invalid, so it publishes only at 59 (R195, R242). -/
theorem markerStep_publishes_or_keeps (s : State) :
    (s.dstate = 59 ∧ s.validTimeInfo = true ∧ markerStep (position s) s = startMinute (publish s)) ∨
    KeepsPublication s (markerStep (position s) s) := by
  by_cases hend : position s = .endOfMinute
  · have hstep : markerStep (position s) s = minuteBoundary s := by rw [hend]; rfl
    rw [hstep]
    cases hvalid : s.validTimeInfo
    · exact .inr (minuteBoundary_of_invalid_keepsPublication hvalid)
    · exact .inl ⟨position_eq_endOfMinute_iff.mp hend, rfl, minuteBoundary_of_valid hvalid⟩
  · have hstep : markerStep (position s) s = minuteBoundary (raiseFault .notEndOfMinute s) := by
      rw [markerStep, decide_eq_true hend, raiseWhen_true]
    rw [hstep]
    exact .inr ((KeepsPublication.of_frame ((ConsumerFrame.refl s).then_raiseFault .notEndOfMinute)).trans
      (minuteBoundary_of_invalid_keepsPublication (raiseFault_validTimeInfo _ _)))

/-! ## What an event does to them -/

/-- An event but RESET is the closing TICK of a valid minute and publishes, or it publishes nothing. -/
theorem exec_publishes_or_keeps {i : Instr} {s t : State} (h : exec i s = .next t) (hreset : i ≠ .reset) :
    (∃ p, i = .tick p ∧ ClosesMinute p s ∧ s.dstate = 59 ∧ s.validTimeInfo = true ∧
      t = startMinute (publish (startSecond (countSample p s)))) ∨
    KeepsPublication s t := by
  obtain hframe | ⟨p, rfl, hclose, rfl⟩ | ⟨rfl, _⟩ := exec_cases h
  · exact .inr (.of_frame hframe)
  · have hsecond : KeepsPublication s (startSecond (countSample p s)) :=
      .of_frame ((countSample_frame p s).trans (startSecond_frame _))
    obtain ⟨hd, hvalid, hpublish⟩ | hkeeps := markerStep_publishes_or_keeps (startSecond (countSample p s))
    · exact .inl ⟨p, rfl, hclose, hd, hvalid, hpublish⟩
    · exact .inr (hsecond.trans hkeeps)
  · exact absurd rfl hreset

/-- Settles O41: an event that moves a role or sets a flag publishes. -/
theorem onlyValidBoundaryPublishes : Obligations.OnlyValidBoundaryPublishes := by
  intro i s t h hreset hmoved
  obtain ⟨p, rfl, ⟨hpos, hlocked, _, hmarker⟩, hd, hvalid, _⟩ | hkeeps := exec_publishes_or_keeps h hreset
  · exact ⟨p, rfl, hpos, hlocked, hd, hvalid, hmarker⟩
  · obtain hwrite | hread | ⟨hstale, hfresh⟩ | ⟨hnever, hpublished⟩ := hmoved
    · exact absurd hkeeps.writeIndex_eq hwrite
    · exact absurd hkeeps.readIndex_eq hread
    · exact absurd (hkeeps.fresh_only_falls hfresh) (Bool.eq_false_iff.mp hstale)
    · exact absurd (hkeeps.everPublished_eq.symm.trans hpublished) (Bool.eq_false_iff.mp hnever)

/-- Settles O42: a publish swaps both roles, and every other event but RESET keeps them. -/
theorem rolesSwapTogether : Obligations.RolesSwapTogether := by
  intro i s t h hreset
  obtain ⟨p, _, _, _, _, rfl⟩ | hkeeps := exec_publishes_or_keeps h hreset
  · exact .inr ⟨rfl, rfl⟩
  · exact .inl ⟨hkeeps.writeIndex_eq, hkeeps.readIndex_eq⟩

end Sys2Proof.Machine
end

section
/-! PROOFS. The consumer and diagnostics ports (44_consumer_diag): the bits of each response, what a port leaves of the state
(O44 to O48), and the diagnostics read twice (O49). -/

namespace Sys2Proof.Machine

/-! ## The layouts of the responses (20_memory R81, R273 to R281) -/

/-- The flags byte of the image: a flag in each of the bits 0 to 3 and nothing above (R81). -/
theorem recordFlags_bits (r : TimeRecord) :
    (recordFlags r).getLsbD 0 = r.tzChange ∧ (recordFlags r).getLsbD 1 = r.isCest ∧
    (recordFlags r).getLsbD 2 = r.isCet ∧ (recordFlags r).getLsbD 3 = r.leapPending ∧
    (recordFlags r).extractLsb' 4 4 = 0 := by
  unfold recordFlags
  generalize r.tzChange = tzChange, r.isCest = isCest, r.isCet = isCet, r.leapPending = leapPending
  revert tzChange isCest isCet leapPending
  decide

/-- The RDSTAT byte: a flag in each of the bits 0 to 2 and nothing above (R273). -/
theorem statusByte_bits (everPublished needsFallback fresh : Bool) :
    (statusByte everPublished needsFallback fresh).getLsbD 0 = fresh ∧
    (statusByte everPublished needsFallback fresh).getLsbD 1 = needsFallback ∧
    (statusByte everPublished needsFallback fresh).getLsbD 2 = everPublished ∧
    (statusByte everPublished needsFallback fresh).extractLsb' 3 5 = 0 := by
  revert everPublished needsFallback fresh
  decide

theorem secondByte_toNat (secCount : BitVec 6) : (secondByte secCount).toNat = secCount.toNat :=
  BitVec.toNat_setWidth_of_le (by decide)

theorem counterWord_toNat (errCount : BitVec 16) : (counterWord errCount).toNat = errCount.toNat :=
  BitVec.toNat_setWidth_of_le le_rfl

/-- The three registers stand in the DGFLT value side by side, the position lowest (R279). -/
theorem latchWord_fields (lastError : BitVec 4) (decoderState position : BitVec 6) :
    (latchWord lastError decoderState position).extractLsb' 12 4 = lastError ∧
    (latchWord lastError decoderState position).extractLsb' 6 6 = decoderState ∧
    (latchWord lastError decoderState position).extractLsb' 0 6 = position := by
  refine ⟨?kind, ?state, BitVec.extractLsb'_append_eq_right⟩
  case kind => exact (BitVec.extractLsb'_append_eq_of_le (by decide)).trans BitVec.extractLsb'_append_eq_left
  case state => exact (BitVec.extractLsb'_append_eq_of_le (by decide)).trans BitVec.extractLsb'_append_eq_right

/-- An empty latch is delivered as 0 (R283). -/
theorem latchWord_empty : latchWord 0 0 0 = 0 := by decide

theorem counterWord_zero : counterWord 0 = 0 := by decide

/-! ## The consumer ports (R271 to R277) -/

/-- Settles O44: the flags byte of the image is `recordFlags`. -/
theorem rdrecDeliversImage : Obligations.RdrecDeliversImage := by
  intro s
  obtain ⟨htz, hcest, hcet, hleap, hzero⟩ := recordFlags_bits (readSlot s)
  exact ⟨recordFlags (readSlot s), htz, hcest, hcet, hleap, hzero, rfl⟩

/-- Settles O45: the bytes delivered are `statusByte` and `secondByte`. -/
theorem rdstatAndRdsecDeliver : Obligations.RdstatAndRdsecDeliver := by
  intro s
  obtain ⟨hfresh, hfallback, hpublished, hzero⟩ := statusByte_bits s.everPublished s.needsFallback s.fresh
  exact ⟨⟨statusByte s.everPublished s.needsFallback s.fresh, hfresh, hfallback, hpublished, hzero, rfl⟩,
    secondByte s.secCount, secondByte_toNat s.secCount, rfl⟩

theorem exec_ack (m : BitVec 2) (s : State) :
    exec (.ack m) s = .next { s with
      fresh := if maskClearsFresh m then false else s.fresh
      needsFallback := if maskClearsFallback m then false else s.needsFallback } := rfl

/-- What ACK makes of a flag is the flag and not its mask bit: it can clear the flag and not set it (R277). -/
theorem clearedFlag_eq (clears flag : Bool) : (if clears then false else flag) = (flag && !clears) := by
  cases clears <;> simp

/-- Settles O46: each of the two flags is cleared by its own bit of the mask (`clearedFlag_eq`). -/
theorem ackClears : Obligations.AckClears := by
  intro m s
  rw [exec_ack, clearedFlag_eq, clearedFlag_eq]
  rfl

/-! ## The diagnostics ports (R279, R281) -/

theorem exec_dgflt (s : State) :
    exec .dgflt s = .next
      (respond (.half (latchWord s.lastError s.errorDecoderState s.errorPosition)) (clearLatch s)) := rfl

theorem exec_dgcnt (s : State) :
    exec .dgcnt s = .next (respond (.half (counterWord s.errCount)) { s with errCount := 0 }) := rfl

/-- Settles O47: the value delivered is `latchWord` of the latch, which `clearLatch` then empties. -/
theorem dgfltReadsAndClears : Obligations.DgfltReadsAndClears := by
  intro s
  obtain ⟨hkind, hstate, hposition⟩ := latchWord_fields s.lastError s.errorDecoderState s.errorPosition
  exact ⟨latchWord s.lastError s.errorDecoderState s.errorPosition, hkind, hstate, hposition, exec_dgflt s⟩

/-- Settles O48: the value delivered is `counterWord` of the counter. -/
theorem dgcntReadsAndClears : Obligations.DgcntReadsAndClears :=
  fun s => ⟨counterWord s.errCount, counterWord_toNat s.errCount, exec_dgcnt s⟩

/-! ## Reading the diagnostics twice (R283) -/

/-- What DGFLT then DGCNT make of `s`: the latch empty, the counter 0, and two values delivered. -/
def diagnosticsRead (s : State) : State :=
  respond (.half (counterWord s.errCount))
    { respond (.half (latchWord s.lastError s.errorDecoderState s.errorPosition)) (clearLatch s) with errCount := 0 }

theorem runCommands_readDiagnostics (s : State) : runCommands [.dgflt, .dgcnt] s = .next (diagnosticsRead s) := by
  rw [runCommands_cons (exec_dgflt s), runCommands_cons (exec_dgcnt _)]
  rfl

theorem diagnosticsRead_responses (s : State) :
    (diagnosticsRead s).responses = s.responses ++
      [.half (latchWord s.lastError s.errorDecoderState s.errorPosition), .half (counterWord s.errCount)] :=
  List.append_assoc ..

/-- A reading leaves the no-fault state, which the next one delivers as 0 and 0. -/
theorem diagnosticsRead_noFault (s : State) :
    latchWord (diagnosticsRead s).lastError (diagnosticsRead s).errorDecoderState (diagnosticsRead s).errorPosition = 0 ∧
    counterWord (diagnosticsRead s).errCount = 0 :=
  ⟨latchWord_empty, counterWord_zero⟩

/-- Settles O49: the second pair reads what the first has left, an empty latch and a counter of 0. -/
theorem diagnosticsReadTwice : Obligations.DiagnosticsReadTwice := by
  intro s
  refine ⟨latchWord s.lastError s.errorDecoderState s.errorPosition, counterWord s.errCount,
    diagnosticsRead (diagnosticsRead s), ?_, ?_⟩
  · exact (runCommands_append (runCommands_readDiagnostics s) [.dgflt, .dgcnt]).trans
      (runCommands_readDiagnostics (diagnosticsRead s))
  · obtain ⟨hlatch, hcounter⟩ := diagnosticsRead_noFault s
    rw [diagnosticsRead_responses, hlatch, hcounter, diagnosticsRead_responses]
    exact List.append_assoc ..

end Sys2Proof.Machine
end

section
/-! PROOFS. Faults and rights (60_exceptions): the fault procedure (O50, O51), a decoder step takes at most one fault
(`AtMostOneFault`), and so does an event (O52, O53), what each context writes (O54), and that the ports only clear (O55). -/

namespace Sys2Proof.Machine

/-! ## The fault procedure (R300, R301) -/

/-- Settles O50: the codes are the rows of R300, and the forcing kinds are picked out kind by kind. -/
theorem faultKindCodes : Obligations.FaultKindCodes := by
  refine ⟨rfl, rfl, rfl, rfl, rfl, rfl, rfl, rfl, rfl, rfl, fun k => ?_⟩
  cases k with
  | undefinedState | endOfMinute | bitState => exact iff_of_true rfl (by decide)
  | startOfMinute | notEndOfMinute | cetCest | startTime | parityMinute | parityHour | parityDate =>
    exact iff_of_false (by decide) (by decide)

/-- The fault latch (10_state R55 to R57). -/
def latch (s : State) := (s.lastError, s.errorDecoderState, s.errorPosition)

/-- A full latch keeps the fault it has when another is taken (R301 (c)). -/
theorem latch_raiseFault_of_full {s : State} (hfull : s.lastError ≠ 0) (k : ErrorKind) : latch (raiseFault k s) = latch s := by
  simp only [latch, raiseFault_lastError, raiseFault_errorDecoderState, raiseFault_errorPosition, if_neg hfull]

/-- Settles O51, register by register; that nothing else is written is `raiseFault_writes`. -/
theorem faultProcedure : Obligations.FaultProcedure := by
  intro k s
  refine ⟨raiseFault_minuteFault k s, raiseFault_validTimeInfo k s, fun hbelow => ?_, fun hmax => ?_, fun hempty => ?_,
    fun hfull => ?_, fun hforces => ?_, fun hforces => ?_, ?frame⟩
  · rw [raiseFault_errCount, if_pos hbelow]
    bv_omega
  · rw [raiseFault_errCount, if_neg (BitVec.not_lt.mpr hmax)]
  · simp [hempty]
  · simpa only [latch, Prod.mk.injEq] using latch_raiseFault_of_full hfull k
  · simp [hforces]
  · simp [hforces]
  case frame =>
    rw [raiseFault_writes]

/-! ## A decoder step takes at most one fault (R304) -/

/-- Registers the decoder does not write (the first two) or writes only by taking a fault. -/
def faultSide (s : State) := (s.edgeCnt, s.resetDraws, s.syncRun, s.errCount, latch s)

/-- From `s` to `t` no fault was taken, or one, with the position and the second as they stood in `s`. -/
def AtMostOneFault (s t : State) : Prop := faultSide t = faultSide s ∨ ∃ k, faultSide t = faultSide (raiseFault k s)

theorem faultSide_setSlot (i : BitVec 1) (r : TimeRecord) (s : State) : faultSide (setSlot i r s) = faultSide s := by
  simp [faultSide, latch]

theorem faultSide_updateWrite (f : TimeRecord → TimeRecord) (s : State) : faultSide (updateWrite f s) = faultSide s :=
  faultSide_setSlot _ _ s

theorem faultSide_minuteBoundary (s : State) : faultSide (minuteBoundary s) = faultSide s := by
  cases hvalid : s.validTimeInfo
  · rw [minuteBoundary_of_invalid hvalid]
    cases hp : s.everPublished
    · rw [fallback_of_never_published hp]
      rfl
    · rw [fallback_of_published hp]
      exact faultSide_setSlot _ _ { s with needsFallback := true }
  · rw [minuteBoundary_of_valid hvalid]
    rfl

namespace AtMostOneFault

variable {s t u : State}

theorem of_raiseWhen (bad : Bool) (k : ErrorKind) (s : State) : AtMostOneFault s (raiseWhen bad k s) := by
  cases bad
  · exact .inl rfl
  · exact .inr ⟨k, rfl⟩

/-- A record written before the check is no part of what the fault reads or writes. -/
theorem of_raiseWhen_updateWrite (bad : Bool) (k : ErrorKind) (f : TimeRecord → TimeRecord) (s : State) :
    AtMostOneFault s (raiseWhen bad k (updateWrite f s)) := by
  cases bad
  · exact .inl (faultSide_updateWrite f s)
  · exact .inr ⟨k, by simp [faultSide, latch]⟩

/-- An operation that takes no fault may follow; most show it by `rfl`. -/
theorem then_keeps (h : AtMostOneFault s t) (hkeeps : faultSide u = faultSide t) : AtMostOneFault s u :=
  h.imp hkeeps.trans fun ⟨k, hk⟩ => ⟨k, hkeeps.trans hk⟩

end AtMostOneFault

theorem ruleEndOfMinute_atMostOneFault (v : Bool) (s : State) : AtMostOneFault s (ruleEndOfMinute v s) := by
  unfold ruleEndOfMinute
  split
  · exact .inl rfl
  · exact .inr ⟨.endOfMinute, rfl⟩

/-- Every position's rule for a logical bit has at most one check. -/
theorem positionRule_atMostOneFault (q : Position) (v : Bool) (s : State) : AtMostOneFault s (positionRule q v s) := by
  cases q with
  | notSynced | undefined | ignore => exact .inl rfl
  | startOfMinute => exact (AtMostOneFault.of_raiseWhen v .startOfMinute s).then_keeps rfl
  | newTz | cest | leap => exact .inl (faultSide_updateWrite _ s)
  | cet => exact (AtMostOneFault.of_raiseWhen_updateWrite _ .cetCest _ s).then_keeps rfl
  | startTime | parityMinute | parityHour =>
    exact (AtMostOneFault.of_raiseWhen _ _ s).then_keeps (faultSide_updateWrite _ (clearParity _))
  | minute | hour | day | weekday | month | year =>
    exact .inl (faultSide_updateWrite _ { s with parity := parityNext s.parity v })
  | parityDate => exact (AtMostOneFault.of_raiseWhen (parityFails s.parity v) .parityDate s).then_keeps rfl
  | endOfMinute => exact ruleEndOfMinute_atMostOneFault v s

theorem classStep_atMostOneFault (q : Position) (c : Cls) (s : State) : AtMostOneFault s (classStep q c s) := by
  cases c with
  | invalid => exact .inr ⟨.bitState, rfl⟩
  | marker => exact (AtMostOneFault.of_raiseWhen _ .notEndOfMinute s).then_keeps (faultSide_minuteBoundary _)
  | one | zero => exact positionRule_atMostOneFault q _ s

theorem secondStep_atMostOneFault (c : Cls) (s : State) : AtMostOneFault s (secondStep c s) := by
  obtain ⟨_, h⟩ | ⟨_, h⟩ | ⟨_, _, h⟩ := secondStep_cases c s <;> rw [h]
  · exact .inl rfl
  · exact .inr ⟨.undefinedState, rfl⟩
  · exact classStep_atMostOneFault _ c s

/-! ## An event takes at most one fault (R304, R305) -/

/-- A TICK takes no fault, or one, and that at a second boundary while locked (41_bit_sampler R176). -/
theorem exec_tick_faultSide {p : BitVec 1} {s t : State} (h : exec (.tick p) s = .next t) :
    faultSide t = faultSide s ∨
    (s.tickPos = s.cfg.ticksPerSec - 1 ∧ s.syncRun = 3 ∧ ∃ k, faultSide t = faultSide (raiseFault k s)) := by
  rw [exec_tick, closeSecond_eq, countSample_syncRun, Host.Outcome.next.injEq] at h
  subst h
  split_ifs with hpos hlocked
  case pos =>
    have hstart (k : ErrorKind) : faultSide (raiseFault k (startSecond (countSample p s))) = faultSide (raiseFault k s) := by
      rw [raiseFault_writes, raiseFault_writes]
      rfl
    refine (secondStep_atMostOneFault _ (startSecond (countSample p s))).imp_right fun ⟨k, hk⟩ => ?_
    exact ⟨hpos, hlocked, k, hk.trans (hstart k)⟩
  · exact .inl rfl
  · exact .inl rfl

/-- What EDGE writes: the edge counter, the run, and what `Lock()` writes (R312, 40_edge_sync R157). -/
theorem exec_edge_writes {s t : State} (h : exec .edge s = .next t) : t = { s with
    edgeCnt := t.edgeCnt, syncRun := t.syncRun, tickPos := t.tickPos, voteA := t.voteA, voteB := t.voteB,
    dstate := t.dstate, secCount := t.secCount, minuteFault := t.minuteFault, validTimeInfo := t.validTimeInfo,
    leapExt := t.leapExt } := by
  cases h
  dsimp only [measureInterval]
  split_ifs <;> rfl

/-- An event but RESET is a TICK that takes one fault, or it keeps the counter and the latch, which only DGCNT and DGFLT
clear. -/
theorem exec_raises_or_keeps {i : Instr} {s t : State} (h : exec i s = .next t) (hreset : i ≠ .reset) :
    (∃ p k, i = .tick p ∧ s.tickPos = s.cfg.ticksPerSec - 1 ∧ s.syncRun = 3 ∧ t.errCount = (raiseFault k s).errCount ∧
      latch t = latch (raiseFault k s)) ∨
    ((i ≠ .dgcnt → t.errCount = s.errCount) ∧ (i ≠ .dgflt → latch t = latch s)) := by
  cases i with
  | tick p =>
    have hside := exec_tick_faultSide h
    simp only [faultSide, Prod.mk.injEq] at hside
    obtain ⟨_, _, _, hcount, hlatch⟩ | ⟨hpos, hlocked, k, _, _, _, hcount, hlatch⟩ := hside
    · exact .inr ⟨fun _ => hcount, fun _ => hlatch⟩
    · exact .inl ⟨p, k, rfl, hpos, hlocked, hcount, hlatch⟩
  | edge =>
    rw [exec_edge_writes h]
    exact .inr ⟨fun _ => rfl, fun _ => rfl⟩
  | cnt | rdrec | rdstat | rdsec | ack =>
    cases h
    exact .inr ⟨fun _ => rfl, fun _ => rfl⟩
  | dgflt =>
    cases h
    exact .inr ⟨fun _ => rfl, fun hne => absurd rfl hne⟩
  | dgcnt =>
    cases h
    exact .inr ⟨fun hne => absurd rfl hne, fun _ => rfl⟩
  | reset => exact absurd rfl hreset

/-- Settles O52: the one fault of an event counts once, below the counter's maximum. -/
theorem atMostOneFaultPerEvent : Obligations.AtMostOneFaultPerEvent := by
  intro i s t h hdgcnt hreset
  obtain ⟨p, k, rfl, hpos, hlocked, hcount, _⟩ | ⟨hcount, _⟩ := exec_raises_or_keeps h hreset
  · rw [raiseFault_errCount] at hcount
    split at hcount
    case isTrue hbelow => exact .inr ⟨hcount, hbelow, hpos, hlocked, p, rfl⟩
    case isFalse => exact .inl hcount
  · exact .inl (hcount hdgcnt)

/-- Settles O53: the one fault of an event finds the latch full. -/
theorem fullLatchKeepsFirstFault : Obligations.FullLatchKeepsFirstFault := by
  intro i s t h hdgflt hreset hfull
  have hlatch : latch t = latch s := by
    obtain ⟨_, k, _, _, _, _, hraised⟩ | ⟨_, hkept⟩ := exec_raises_or_keeps h hreset
    · exact hraised.trans (latch_raiseFault_of_full hfull k)
    · exact hkept hdgflt
  simpa only [latch, Prod.mk.injEq] using hlatch

/-! ## What each context writes (R312) -/

/-- A TICK reaches `sync_run` only through a forcing fault, which clears it (R301 (d)). -/
theorem exec_tick_writes {p : BitVec 1} {s t : State} (h : exec (.tick p) s = .next t) :
    t.edgeCnt = s.edgeCnt ∧ t.responses = s.responses ∧ t.resetDraws = s.resetDraws ∧
    (t.syncRun = s.syncRun ∨ t.syncRun = 0) := by
  have hresponses : t.responses = s.responses := (exec_responses h).trans (List.append_nil _)
  have hside := exec_tick_faultSide h
  simp only [faultSide, Prod.mk.injEq] at hside
  obtain ⟨hedge, hdraws, hrun, _⟩ | ⟨_, _, k, hedge, hdraws, hrun, _⟩ := hside
  · exact ⟨hedge, hresponses, hdraws, .inl hrun⟩
  · refine ⟨hedge.trans (raiseFault_edgeCnt k s), hresponses, hdraws.trans (raiseFault_resetDraws k s), ?_⟩
    rw [hrun, raiseFault_syncRun]
    split
    · exact .inr rfl
    · exact .inl rfl

theorem exec_consumer_writes {i : Instr} (hi : commandContext i = .consumer) {s t : State} (h : exec i s = .next t) :
    t = { s with fresh := t.fresh, needsFallback := t.needsFallback, responses := t.responses } := by
  cases i with
  | rdrec | rdstat | rdsec | ack =>
    cases h
    rfl
  | tick | edge | cnt | dgflt | dgcnt | reset => exact nomatch hi

theorem exec_diagnostics_writes {i : Instr} (hi : commandContext i = .diagnostics) {s t : State}
    (h : exec i s = .next t) :
    t = { s with
      lastError := t.lastError, errorDecoderState := t.errorDecoderState, errorPosition := t.errorPosition,
      errCount := t.errCount, responses := t.responses } := by
  cases i with
  | dgflt | dgcnt =>
    cases h
    rfl
  | tick | edge | cnt | rdrec | rdstat | rdsec | ack | reset => exact nomatch hi

/-- Settles O54: one lemma for each context; three contexts have one command. -/
theorem contextsWriteTheirRow : Obligations.ContextsWriteTheirRow := by
  intro i s t h
  refine ⟨fun hi => ?tick, fun hi => ?edge, fun hi => ?cnt, fun hi => exec_consumer_writes hi h,
    fun hi => exec_diagnostics_writes hi h⟩
  case tick =>
    cases i with
    | tick p => exact exec_tick_writes h
    | _ => exact nomatch hi
  case edge =>
    cases i with
    | edge => exact exec_edge_writes h
    | _ => exact nomatch hi
  case cnt =>
    cases i with
    | cnt =>
      cases h
      rfl
    | _ => exact nomatch hi

/-! ## The ports only clear (R313) -/

/-- What the two contexts of the ports write, in one frame. -/
theorem exec_port_writes {i : Instr} (hi : commandContext i = .consumer ∨ commandContext i = .diagnostics) {s t : State}
    (h : exec i s = .next t) :
    t = { s with
      fresh := t.fresh, needsFallback := t.needsFallback, lastError := t.lastError,
      errorDecoderState := t.errorDecoderState, errorPosition := t.errorPosition, errCount := t.errCount,
      responses := t.responses } := by
  obtain hi | hi := hi
  · rw [exec_consumer_writes hi h]
  · rw [exec_diagnostics_writes hi h]

/-- Of what a port writes, the flags only fall, and the latched kind and the counter stay or become 0. -/
theorem exec_port_clears {i : Instr} (hi : commandContext i = .consumer ∨ commandContext i = .diagnostics) {s t : State}
    (h : exec i s = .next t) :
    (t.fresh = true → s.fresh = true) ∧ (t.needsFallback = true → s.needsFallback = true) ∧
    (t.lastError = s.lastError ∨ t.lastError = 0) ∧ (t.errCount = s.errCount ∨ t.errCount = 0) := by
  cases i with
  | rdrec | rdstat | rdsec =>
    cases h
    exact ⟨id, id, .inl rfl, .inl rfl⟩
  | ack m =>
    rw [exec_ack, clearedFlag_eq, clearedFlag_eq] at h
    cases h
    exact ⟨Bool.and_elim_left, Bool.and_elim_left, .inl rfl, .inl rfl⟩
  | dgflt =>
    cases h
    exact ⟨id, id, .inr rfl, .inl rfl⟩
  | dgcnt =>
    cases h
    exact ⟨id, id, .inl rfl, .inr rfl⟩
  | tick | edge | cnt | reset => exact hi.elim nofun nofun

/-- Settles O55: the ports write nothing outside their frame, and within it they only clear. -/
theorem consumerOnlyClears : Obligations.ConsumerOnlyClears := by
  intro i s t hi h
  obtain ⟨hfresh, hfallback, herror, hcount⟩ := exec_port_clears hi h
  rw [exec_port_writes hi h]
  exact ⟨rfl, rfl, rfl, rfl, rfl, rfl, rfl, rfl, rfl, rfl, rfl, rfl, rfl, rfl, rfl, rfl, hfresh, hfallback, herror, hcount⟩

end Sys2Proof.Machine
end

section
/-! PROOFS. RESET and the hazards (70_reset_and_hazards): a stream of command words never stops the machine (O7), RESET sets
every element (O56), and the state at power-on is the one it leaves (O57). -/

namespace Sys2Proof.Machine

/-! ## Streams of command words (R333, R348) -/

/-- A step waits or takes the first word, whose command has a next state and leaves the words behind it alone. -/
theorem exists_step_of_commandsLegal {s : State} (h : commandsLegal s) : ∃ t, step s = .next t ∧ commandsLegal t := by
  obtain ⟨_, hwait⟩ | ⟨w, rest, i, hwords, _, hrun⟩ | ⟨w, rest, why, hwords, hd, _⟩ := step_cases s
  · exact ⟨s, hwait, h⟩
  · obtain ⟨t, ht⟩ := exists_exec_eq_next i { s with commands := rest }
    obtain ⟨_, hrest⟩ : _ ∧ t.commands = rest := parametersFixed i _ t ht
    have hlegal : commandsLegal t := fun v hv => h v (hwords ▸ List.mem_cons_of_mem w (hrest ▸ hv))
    exact ⟨t, hrun.trans ht, hlegal⟩
  · have hcommand := h w (hwords ▸ List.mem_cons_self)
    rw [hd] at hcommand
    exact nomatch hcommand

/-- Settles O7, by induction on the number of steps. -/
theorem legalStreamsNeverStop : Obligations.LegalStreamsNeverStop := by
  intro n
  induction n with
  | zero => exact fun s h => ⟨s, rfl, h⟩
  | succ n ih =>
    intro s h
    obtain ⟨t, hstep, ht⟩ := exists_step_of_commandsLegal h
    rw [run_succ_of_step hstep]
    exact ih t ht

/-! ## RESET (R330, R331) -/

theorem exec_reset (s : State) : exec .reset s = .next (resetBlock s) := rfl

/-- Settles O56, by the laws of `resetBlock`, one for each element. -/
theorem resetSetsEverything : Obligations.ResetSetsEverything := by
  intro s
  refine ⟨resetBlock s, exec_reset s, ?_⟩
  simp

/-- The parameters, the two streams and the count of draws are all that RESET leaves of a state. -/
theorem resetBlock_congr {s t : State} (hcfg : s.cfg = t.cfg) (hcommands : s.commands = t.commands)
    (hresponses : s.responses = t.responses) (hdraws : s.resetDraws = t.resetDraws) : resetBlock s = resetBlock t := by
  simp only [resetBlock, hcfg, hcommands, hresponses, hdraws]

/-- RESET with no draw made yet, from the state at power-on, answers that state again. -/
theorem resetBlock_reset : resetBlock { State.reset with resetDraws := 0 } = State.reset := rfl

/-- Settles O57: the state before agrees with the state at power-on, no draw made, in all that RESET leaves. -/
theorem powerOnIsReset : Obligations.PowerOnIsReset := by
  intro s hcfg hcommands hresponses hdraws
  have hleft : resetBlock s = resetBlock { State.reset with resetDraws := 0 } :=
    resetBlock_congr hcfg hcommands hresponses hdraws
  rw [exec_reset, hleft, resetBlock_reset]

end Sys2Proof.Machine
end
